-- ==== Sys2Proof/Word.lean ====
section
/-! DEFINITION. The word types of the part: octets, and the 16- and 32-bit numbers the spec gives a width. -/

namespace Sys2Proof

/-- Eight bits (00_scope 1.5, "Octet"). -/
abbrev Octet := BitVec 8

/-- Sixteen bits: check values, event sets, wrapping 16-bit counts. -/
abbrev Word16 := BitVec 16

/-- Thirty-two bits: uptime, arrival stamps and counters. -/
abbrev Word32 := BitVec 32

end Sys2Proof
end

