-- ==== Sys2Proof/Syntax.lean ====
section
/-! DEFINITION. The commands: one constructor of `Instr` for each row of spec/opcode_table.json.

A receiver command carries the line and the bits of its receive data input that its event takes (R128): a hunt takes
a list of bits, the oldest first; an aligned octet is its eight bits, the most significant received first, as they
stand on the line (before the escape is undone). A request command is a request as recognition hands it to the management agent
(R148): the line of arrival, the source station, the sequence and the parameter octets; its request code is the
row's. A command that resets the core domain carries the value on STN7 to STN0 at its sampling (R144). -/

namespace Sys2Proof

/-- The two lines of the part. -/
inductive Line where
  | a
  | b
  deriving DecidableEq, Repr

/-- R128: bits received on a line, the oldest first. -/
structure LineBits where
  line : Line
  bits : List Bool
  deriving DecidableEq, Repr

/-- The steps of the part: one constructor per row of the table. -/
inductive Instr where
  -- Line framing and reception (07)
  | huntDelimiter (hunted : LineBits)
  | betweenOctet (l : Line) (o : Octet)
  | dataOctet (l : Line) (o : Octet)
  | closingDelimiter (l : Line)
  | cancelMarker (l : Line)
  | discardingDelimiter (l : Line) (bits : List Bool)
  | escape (l : Line)
  -- Requests at the management agent (08, 09)
  | identify (l : Line) (src seq : Octet) (ps : List Octet)
  | readSettings (l : Line) (src seq : Octet) (ps : List Octet)
  | writeSettings (l : Line) (src seq : Octet) (ps : List Octet)
  | setRemoteAccess (l : Line) (src seq : Octet) (ps : List Octet)
  | readTime (l : Line) (src seq : Octet) (ps : List Octet)
  | setTime (l : Line) (src seq : Octet) (ps : List Octet)
  | readRule (l : Line) (src seq : Octet) (ps : List Octet)
  | readBankState (l : Line) (src seq : Octet) (ps : List Octet)
  | writeRule (l : Line) (src seq : Octet) (ps : List Octet)
  | clearStandby (l : Line) (src seq : Octet) (ps : List Octet)
  | activate (l : Line) (src seq : Octet) (ps : List Octet)
  | readQueue (l : Line) (src seq : Octet) (ps : List Octet)
  | writeQueue (l : Line) (src seq : Octet) (ps : List Octet)
  | freezeQueue (l : Line) (src seq : Octet) (ps : List Octet)
  | resumeQueue (l : Line) (src seq : Octet) (ps : List Octet)
  | flushQueue (l : Line) (src seq : Octet) (ps : List Octet)
  | releaseQueue (l : Line) (src seq : Octet) (ps : List Octet)
  | readWindow (l : Line) (src seq : Octet) (ps : List Octet)
  | readWindowState (l : Line) (src seq : Octet) (ps : List Octet)
  | writeWindow (l : Line) (src seq : Octet) (ps : List Octet)
  | stopTrunk (l : Line) (src seq : Octet) (ps : List Octet)
  | restartTrunk (l : Line) (src seq : Octet) (ps : List Octet)
  | readEvents (l : Line) (src seq : Octet) (ps : List Octet)
  | ackEvents (l : Line) (src seq : Octet) (ps : List Octet)
  | writeEventMask (l : Line) (src seq : Octet) (ps : List Octet)
  | readCounters (l : Line) (src seq : Octet) (ps : List Octet)
  | restart (l : Line) (src seq : Octet) (ps : List Octet)
  | unknownRequestCode (l : Line) (src seq code : Octet) (ps : List Octet)
  -- Transmission (04)
  | selectionB
  | selectionA
  | grantPresent
  | grantTimeout
  | grantLoss
  | holdoffExpiry
  /-- `chargeFirst`: the schedule unit takes the charge before the continuation's selection (R35, R79; log 15). -/
  | completionBFrame (chargeFirst : Bool)
  | completionBSlot
  | completionA
  | charge
  -- Clocks (02, 03)
  | secondStep
  | minuteBoundary
  | oscillatorStop
  | crystalReturn
  | uptimeSecond
  -- Notices (10)
  | noticeRepeatExpiry
  | noticeBuild
  -- Restart, resets and supplies (03, 08)
  | restartDeadlineExpiry
  | restartPerformance (strap : Octet)
  | coreReset (strap : Octet)
  /-- `strap`: the straps sampled where main supply comes up; none where VBAK alone does, so that no core reset
  samples them yet (R60). -/
  | powerOnWithTimeLoss (strap : Option Octet)
  | mainSupplyLoss
  | vbakLoss
  deriving DecidableEq, Repr

end Sys2Proof
end

