-- ==== Sys2Proof/Decode.lean ====
section
/-! DEFINITION. The decoder of table words. No row of spec/opcode_table.json carries bits ("fixed" and "fields"
are empty for all 58), so no word spells a command (log 29). A request's octets are decoded where the part
decodes them: in Machine/Operands.lean and Machine/Catalogue.lean. -/

namespace Sys2Proof

/-- R209: the request codes of the catalogue. -/
def requestCodes : List Octet :=
  [0x01, 0x02, 0x03, 0x04, 0x10, 0x11, 0x20, 0x21, 0x22, 0x23, 0x24, 0x30, 0x31, 0x32, 0x33, 0x34, 0x35,
   0x40, 0x41, 0x42, 0x50, 0x51, 0x60, 0x61, 0x62, 0x63, 0x70]

/-- The command a word of `nbits` bits spells by the table's bits: none, as the table gives no row any bits. -/
def decodeTableWord (nbits w : Nat) : Option Instr :=
  match nbits, w with
  | _, _ => none

end Sys2Proof
end

