-- ==== Sys2Proof/Config.lean ====
section
/-! DEFINITION. What a part of this data book fixes once, and the free values: constants without a body,
which the spec leaves open and no proof can evaluate. -/

namespace Sys2Proof.Config

/-- R174: the vendor code IDENTIFY returns. -/
def vendorCode : Word16 := 0x3A61

/-- R174: the part code IDENTIFY returns. -/
def partCode : Word16 := 0x0216

/-- R174: the revision of parts described by this data book. -/
def revision : Octet := 1

/-- DESIGN CHOICE (log 11): the strap value of `State.reset`, a managed station, the one of the worked
sequences of chapters 5 and 7. -/
def resetStrap : Octet := 0x2A

/-- FREE VALUE (log 13): the code of the order in which the aging passes over the eight queues release their
chains, for the n-th draw. R11 and R120 leave the order open. -/
opaque agingOrder : Nat → Nat

/-- FREE VALUE (log 14): how far a transmission had got when a cancel marker cut it, for the n-th draw. R143
sends the marker "whatever part of the attempt had been sent". -/
opaque octetsSent : Nat → Nat

end Sys2Proof.Config
end

