-- ==== Sys2Proof/Machine/Records.lean ====
section
/-! DEFINITION. The records the blocks of the part keep: the types of which `State` is built. Plain data. -/

namespace Sys2Proof.Machine

/-- One thing per line, `a` for line A and `b` for line B. -/
structure PerLine (α : Type) where
  a : α
  b : α
  deriving DecidableEq, Repr

/-- A block number, 0 to 511 (R111); also a frame handle, the number of a chain's first block. -/
abbrev Block := Fin 512

/-- A queue index: EXP 0, S1 to S6 1 to 6, INB 7 (chapter 1). -/
abbrev QueueIx := Fin 8

/-- A window index (R23). -/
abbrev WindowIx := Fin 24

/-- A rule entry index (R91). -/
abbrev EntryIx := Fin 48

/-- A slot number of a line (R151). -/
abbrev SlotIx := Fin 4

/-! ## Supplies and timekeeping -/

/-- What powers the part (00_scope 1.6): main supply; the backup supply alone, which powers the timekeeping domain
only; or neither, in which the timekeeping domain has lost its record. -/
inductive Supply where
  | main
  | backup
  | none
  deriving DecidableEq, Repr

/-- R47: the seven calendar fields. -/
structure Calendar where
  second : Nat
  minute : Nat
  hour : Nat
  weekday : Nat
  day : Nat
  month : Nat
  year : Nat
  deriving DecidableEq, Repr

/-- R47: the crystal state. -/
inductive Crystal where
  | running
  | stopped
  deriving DecidableEq, Repr

/-- R47: the timekeeping record. -/
structure Timekeeping where
  cal : Calendar
  divider : Nat
  crystal : Crystal
  timeValid : Bool
  generation : Word16
  deriving DecidableEq, Repr

/-! ## Settings -/

/-- R97, R170: the outbound default action; `forward q` for FORWARD EXP (0) and FORWARD S1 to S6 (1 to 6). -/
inductive OutboundDefault where
  | forward (q : Fin 7)
  | discard
  deriving DecidableEq, Repr

/-- R97, R170: the inbound default action. -/
inductive InboundDefault where
  | forward
  | discard
  deriving DecidableEq, Repr

/-- R170: the REMOTE setting. -/
inductive Remote where
  | off
  | readOnly
  | full
  deriving DecidableEq, Repr

/-- R170: the settings record. `noticeLine` none is NONE; grant timeout and hold-off are in units of 10 ms. -/
structure Settings where
  maxFrameLength : Nat
  reserve : Nat
  lowWater : Nat
  outboundDefault : OutboundDefault
  inboundDefault : InboundDefault
  noticeLine : Option Line
  noticeStation : Octet
  noticeRepeat : Nat
  grantTimeout : Nat
  holdOff : Nat
  retryLimit : Nat
  gapDelimiters : Nat
  remote : Remote
  deriving DecidableEq, Repr

/-! ## Receivers -/

/-- R130: the receiver's state. -/
inductive RxState where
  | seeking
  | between
  | inFrame
  | discarding
  deriving DecidableEq, Repr

/-- R130: why a frame was rejected. -/
inductive RejectReason where
  | longFrame
  | storeDrop
  deriving DecidableEq, Repr

/-- R130: the receiver record, with the octet alignment and the most recent bits of R128 (sixteen: the eight the hunt
examines and the eight before them, R129) and the handle the intake of the line holds. -/
structure Receiver where
  state : RxState
  recent : Word16
  aligned : Bool
  escapePending : Bool
  decoded : Nat
  held : List Octet
  check : Word16
  reject : Option RejectReason
  handle : Option Block
  deriving DecidableEq, Repr

/-! ## Frame store -/

/-- R113: a frame record. `matched` none is DEFAULT. -/
structure FrameRecord where
  line : Line
  length : Nat
  chain : List Block
  stamp : Word32
  matched : Option EntryIx
  attempts : Nat
  deriving DecidableEq, Repr

/-- R111, R112, R113, R121: the octets of the blocks (as address and octet pairs, the address of position p of
block b being 64 b + p), the free list, the frame records and the armed state. -/
structure Store where
  mem : List Host.Cell
  free : List Block
  records : Vector FrameRecord 512
  armed : Bool
  deriving DecidableEq, Repr

/-! ## Queue manager -/

/-- R1: the fallback of a scheduled queue. -/
inductive Fallback where
  | hold
  | release
  deriving DecidableEq, Repr

/-- R1: a queue record. EXP and INB have no fallback; theirs stays `hold`, as READ QUEUE reports it (R17). -/
structure Queue where
  frames : List Block
  limit : Nat
  maxAge : Nat
  fallback : Fallback
  frozen : Bool
  mark : Nat
  deriving DecidableEq, Repr

/-! ## Classifier -/

/-- R91: the direction of an entry. -/
inductive Direction where
  | outbound
  | inbound
  | both
  deriving DecidableEq, Repr

/-- R91: the action of an entry. -/
inductive RuleAction where
  | forward
  | discard
  deriving DecidableEq, Repr

/-- R92: a value and a mask. -/
structure OctetMatch where
  value : Octet
  mask : Octet
  deriving DecidableEq, Repr

/-- R93: a payload probe. -/
structure Probe where
  offset : Nat
  value : Octet
  mask : Octet
  deriving DecidableEq, Repr

/-- R94: a length range. -/
structure LengthRange where
  minimum : Nat
  maximum : Nat
  deriving DecidableEq, Repr

/-- R91: a rule entry. -/
structure RuleEntry where
  valid : Bool
  last : Bool
  direction : Direction
  destination : OctetMatch
  source : OctetMatch
  kind : OctetMatch
  probe : Option Probe
  lengths : Option LengthRange
  action : RuleAction
  queue : Fin 7
  deriving DecidableEq, Repr

/-- R101: the bank state record. `active` is the number of the active bank: false is 0, true is 1. -/
structure Classifier where
  bank0 : Vector RuleEntry 48
  bank1 : Vector RuleEntry 48
  active : Bool
  activations : Word16
  deriving DecidableEq, Repr

/-! ## Schedule unit -/

/-- R23: a window entry. `none` is ANY. Bit k of `queueSet` is Sk; bits 0 and 7 are reserved and stored 0. -/
structure WindowEntry where
  enabled : Bool
  minute : Nat
  hour : Option Nat
  weekdays : Option (BitVec 7)
  day : Option Nat
  duration : Nat
  budget : Nat
  queueSet : Octet
  deriving DecidableEq, Repr

/-- R24: CLOSED, OPEN or SPENT. -/
inductive WindowPhase where
  | closed
  | opened
  | spent
  deriving DecidableEq, Repr

/-- R24: the window state record. `opening` is the instance. -/
structure WindowState where
  phase : WindowPhase
  minutes : Nat
  budget : Nat
  opening : Word16
  deriving DecidableEq, Repr

/-- A window: its entry and, beside it, its state record. -/
structure Window where
  entry : WindowEntry
  state : WindowState
  deriving DecidableEq, Repr

/-! ## Transmitters -/

/-- R33: the window that let a frame go, and the number of its opening then. -/
structure Sponsor where
  window : WindowIx
  opening : Word16
  deriving DecidableEq, Repr

/-- R34: a charge sent by transmitter B and not yet taken by the schedule unit. -/
structure Charge where
  length : Nat
  sponsor : Sponsor
  deriving DecidableEq, Repr

/-- R63: the in-flight record. Its attempt count is the frame record's or the slot's and is not stored twice. -/
inductive InFlight where
  | frame (source : QueueIx) (handle : Block) (marked : Bool) (sponsor : Option Sponsor)
  | slot (i : SlotIx)
  deriving DecidableEq, Repr

/-- R64: transmitter A. `stream` is the octets of the transmission, framed (R142). -/
inductive TxA where
  | idle
  | sending (f : InFlight) (stream : List Octet)
  deriving DecidableEq, Repr

/-- R64: transmitter B. Its grant timer runs in REQUESTING and its hold-off timer in HOLDOFF; both are fields of State. -/
inductive TxB where
  | idle
  | requesting (f : InFlight)
  | sending (f : InFlight) (stream : List Octet)
  | holdoff
  deriving DecidableEq, Repr

/-- R64: the trunk mode. -/
inductive TrunkMode where
  | running
  | stopped
  deriving DecidableEq, Repr

/-! ## Management agent -/

/-- R151: the state of a slot. -/
inductive SlotState where
  | free
  | queued
  | sending
  | cached
  deriving DecidableEq, Repr

/-- R151: what a slot holds. -/
inductive SlotRole where
  | response
  | notice
  deriving DecidableEq, Repr

/-- R149, R151: the frame of a slot; its source station is the part's station. -/
structure SlotFrame where
  role : SlotRole
  destination : Octet
  kind : Octet
  payload : List Octet
  deriving DecidableEq, Repr

/-- R151: a slot record, less its queue position, which is the line's `order`. -/
structure Slot where
  state : SlotState
  content : Option SlotFrame
  attempts : Nat
  deriving DecidableEq, Repr

/-- R152: the cache of a line, when it is not empty. -/
structure Cache where
  seq : Octet
  code : Octet
  slot : SlotIx
  deriving DecidableEq, Repr

/-- R151, R152: the agent's records of one line. `order` lists the slots that are QUEUED or SENDING in the order
in which they entered QUEUED: it holds every slot's queue position. -/
structure LineAgent where
  slots : Vector Slot 4
  order : List SlotIx
  cache : Option Cache
  deriving DecidableEq, Repr

/-- R152: the scope of a RESTART. -/
inductive Scope where
  | traffic
  | full
  deriving DecidableEq, Repr

/-- R152: the restart state record. The scope and response slot have no meaning in NORMAL and are absent there.
`deadline` is the seconds left of the deadline timer. -/
inductive RestartState where
  | normal
  | pending (scope : Scope) (line : Line) (slot : SlotIx) (deadline : Nat)
  | due (scope : Scope) (line : Line) (slot : SlotIx)
  deriving DecidableEq, Repr

/-! ## Events and counters -/

/-- R190: the sixteen events. -/
inductive Event where
  | storeLow
  | storeDrop
  | queueDrop
  | ageDrop
  | retryDrop
  | checkError
  | frameAbort
  | longFrame
  | grantFail
  | windowOpened
  | windowClosed
  | budgetSpent
  | clockStopped
  | timeSet
  | bankActivated
  | accessDenied
  deriving DecidableEq, Repr

/-- R190: the state of an event. -/
inductive EventState where
  | clear
  | unreported
  | reported
  deriving DecidableEq, Repr

/-- R193: the state of the notice unit. -/
inductive NoticeState where
  | quiet
  | owed
  | outstanding
  deriving DecidableEq, Repr

/-- R193: the notice record. A stopped repeat timer is `none`. -/
structure NoticeUnit where
  state : NoticeState
  number : Octet
  timer : Option Nat
  deriving DecidableEq, Repr

/-- The event unit: event states, the mask (bit n is event n) and the notice unit. -/
structure EventUnit where
  states : Vector EventState 16
  mask : Word16
  notice : NoticeUnit
  deriving DecidableEq, Repr

/-- R204: the counters both lines have. -/
inductive LineCounter where
  | goodFrames
  | checkErrors
  | aborts
  | runts
  | longFrames
  | storeDrops
  | framesSent
  deriving DecidableEq, Repr

/-- R19: the counters of a queue. -/
inductive QueueCounter where
  | joined
  | released
  | fullDrops
  | ageDrops
  | retryDrops
  | flushed
  deriving DecidableEq, Repr

/-- R204: the MGMT counters. -/
inductive MgmtCounter where
  | executed
  | duplicates
  | denied
  | overruns
  | malformed
  | noticesSent
  | responsesLost
  deriving DecidableEq, Repr

/-- R204: a counter of the bank. -/
inductive Counter where
  | line (l : Line) (c : LineCounter)
  | grantTimeouts
  | grantLosses
  | queue (q : QueueIx) (c : QueueCounter)
  | ruleHit (i : EntryIx)
  | outboundDefaultHits
  | inboundDefaultHits
  | mgmt (c : MgmtCounter)
  deriving DecidableEq, Repr

end Sys2Proof.Machine
end

