-- ==== Sys2Proof/Machine/Defaults.lean ====
section
/-! DEFINITION. The values after reset of every record, from the reset rules of each chapter, and the two ways a
fixed-length table is built. -/

namespace Sys2Proof.Machine

/-- The table whose i-th element is `f i`. -/
def tabulate {α : Type} (n : Nat) (f : Fin n → α) : Vector α n := ⟨⟨List.ofFn f⟩, by simp⟩

/-- The table with every element replaced by `f` of its index and itself. -/
def mapTable {α : Type} {n : Nat} (f : Fin n → α → α) (v : Vector α n) : Vector α n :=
  tabulate n fun i => f i v[i]

/-- R60: the timekeeping record at timekeeping start. -/
def Timekeeping.start : Timekeeping :=
  { cal := { second := 0, minute := 0, hour := 0, weekday := 0, day := 1, month := 1, year := 0 }
    divider := 0
    crystal := .stopped
    timeValid := false
    generation := 0 }

/-- R170, R189: the settings after core reset. -/
def Settings.default : Settings :=
  { maxFrameLength := 512
    reserve := 32
    lowWater := 64
    outboundDefault := .forward 0
    inboundDefault := .forward
    noticeLine := some .a
    noticeStation := 0x01
    noticeRepeat := 30
    grantTimeout := 50
    holdOff := 10
    retryLimit := 3
    gapDelimiters := 2
    remote := .off }

/-- R146, R147: a receiver and its intake after a core reset or a traffic restart. -/
def Receiver.seeking : Receiver :=
  { state := .seeking
    recent := 0
    aligned := false
    escapePending := false
    decoded := 0
    held := []
    check := 0xFFFF
    reject := none
    handle := none }

/-- R126: the record of block `b` after a reset. -/
def FrameRecord.blank (b : Block) : FrameRecord :=
  { line := .a, length := 0, chain := [b], stamp := 0, matched := none, attempts := 0 }

/-- R126, R127: the free list holds every block, in ascending order. -/
def allBlocks : List Block := List.ofFn (n := 512) fun b => b

/-- R126, R127: the store rebuilt, over the octets its blocks hold. -/
def Store.rebuilt (mem : List Host.Cell) : Store :=
  { mem := mem
    free := allBlocks
    records := tabulate 512 FrameRecord.blank
    armed := true }

/-- R21: the limit of a queue at core reset. -/
def resetLimit (q : QueueIx) : Nat := if q = 0 then 32 else 64

/-- R21: a queue record after core reset. -/
def Queue.blank (q : QueueIx) : Queue :=
  { frames := [], limit := resetLimit q, maxAge := 0, fallback := .hold, frozen := false, mark := 0 }

/-- R91: the cleared contents of a rule entry. -/
def RuleEntry.cleared : RuleEntry :=
  { valid := false
    last := false
    direction := .both
    destination := ⟨0, 0⟩
    source := ⟨0, 0⟩
    kind := ⟨0, 0⟩
    probe := none
    lengths := none
    action := .forward
    queue := 0 }

/-- R103, R109: a bank of cleared entries. -/
def clearedBank : Vector RuleEntry 48 := tabulate 48 fun _ => RuleEntry.cleared

/-- R109: the classifier after core reset. -/
def Classifier.blank : Classifier :=
  { bank0 := clearedBank, bank1 := clearedBank, active := false, activations := 0 }

/-- R45: a window after core reset. -/
def Window.blank : Window :=
  { entry :=
      { enabled := false
        minute := 0
        hour := none
        weekdays := none
        day := none
        duration := 1
        budget := 0
        queueSet := 0x02 }
    state := { phase := .closed, minutes := 0, budget := 0, opening := 0 } }

/-- R167: a FREE slot. -/
def Slot.blank : Slot := { state := .free, content := none, attempts := 0 }

/-- R167: the agent's records of a line after core reset. -/
def LineAgent.blank : LineAgent :=
  { slots := tabulate 4 fun _ => Slot.blank, order := [], cache := none }

/-- R206: the event unit after core reset, before the mark of CLOCK_STOPPED at its end. -/
def EventUnit.blank : EventUnit :=
  { states := tabulate 16 fun _ => .clear
    mask := 0x911F
    notice := { state := .quiet, number := 0, timer := none } }

/-- R207: all counters 0. -/
def zeroCounters : Vector Word32 121 := tabulate 121 fun _ => 0

end Sys2Proof.Machine
end

