-- ==== Sys2Proof/Machine/EventUnit.lean ====
section
/-! DEFINITION. The event unit's operations on its own record (chapter 10): numbering, event sets, the raise, the
evaluation of the notice unit, and the repeat timer. -/

namespace Sys2Proof.Machine

/-- R190: the number of an event. -/
def Event.number : Event → Fin 16
  | .storeLow => 0
  | .storeDrop => 1
  | .queueDrop => 2
  | .ageDrop => 3
  | .retryDrop => 4
  | .checkError => 5
  | .frameAbort => 6
  | .longFrame => 7
  | .grantFail => 8
  | .windowOpened => 9
  | .windowClosed => 10
  | .budgetSpent => 11
  | .clockStopped => 12
  | .timeSet => 13
  | .bankActivated => 14
  | .accessDenied => 15

/-- R190: an event is pending when it is PENDING_UNREPORTED or PENDING_REPORTED. -/
def EventState.isPending (e : EventState) : Bool := e != .clear

/-- The event set of the events whose state passes the test (R208: bit n is event n). -/
def EventUnit.setOf (u : EventUnit) (p : EventState → Bool) : Word16 :=
  BitVec.ofFnLE fun n : Fin 16 => p u.states[n]

/-- R196: every pending event, masked or not. -/
def EventUnit.pendingSet (u : EventUnit) : Word16 := u.setOf EventState.isPending

/-- R196: the events that are PENDING_UNREPORTED. -/
def EventUnit.newSet (u : EventUnit) : Word16 := u.setOf (· == .unreported)

/-- R192, R194: an event of the mask is pending. -/
def EventUnit.unmaskedPending (u : EventUnit) : Bool := u.mask &&& u.pendingSet != 0

/-- R192, R194: an event of the mask is PENDING_UNREPORTED. -/
def EventUnit.unmaskedNew (u : EventUnit) : Bool := u.mask &&& u.newSet != 0

/-- R197: the repeat timer as started: a setting of 0 leaves it stopped. -/
def startRepeat (setting : Nat) : Option Nat := if setting = 0 then none else some setting

/-- R194: the evaluation of the notice unit, with the notice repeat setting read where a timer is started. -/
def EventUnit.evaluate (setting : Nat) (u : EventUnit) : EventUnit :=
  if u.unmaskedNew then
    { u with notice := { u.notice with state := .owed, timer := none } }
  else if u.unmaskedPending then
    match u.notice.state with
    | .quiet => { u with notice := { u.notice with state := .outstanding, timer := startRepeat setting } }
    | .owed => u
    | .outstanding => u
  else
    { u with notice := { u.notice with state := .quiet, timer := none } }

/-- R191: a raise. A CLEAR event becomes PENDING_UNREPORTED and the notice unit is evaluated; a pending event is
left as it is. -/
def EventUnit.raise (setting : Nat) (e : Event) (u : EventUnit) : EventUnit :=
  if u.states[e.number] = .clear then
    EventUnit.evaluate setting { u with states := u.states.set e.number.val .unreported e.number.isLt }
  else u

/-- R191, repeated raises of one event in one step: n raises. -/
def EventUnit.raiseTimes (setting : Nat) (e : Event) : Nat → EventUnit → EventUnit
  | 0, u => u
  | n + 1, u => EventUnit.raiseTimes setting e n (u.raise setting e)

/-- R200: the named events that are PENDING_REPORTED become CLEAR, and the notice unit is evaluated. -/
def EventUnit.acknowledge (setting : Nat) (set : Word16) (u : EventUnit) : EventUnit :=
  EventUnit.evaluate setting
    { u with
      states := mapTable (fun n e => if set.getLsbD n.val && e == .reported then .clear else e) u.states }

/-- R202: the mask is replaced, and the notice unit is evaluated. -/
def EventUnit.writeMask (setting : Nat) (mask : Word16) (u : EventUnit) : EventUnit :=
  EventUnit.evaluate setting { u with mask := mask }

/-- R195, steps 2, 4 and 5: the number of the notice, every pending event reported, the unit OUTSTANDING and its
timer started. -/
def EventUnit.noticeBuilt (setting : Nat) (u : EventUnit) : EventUnit :=
  { u with
    states := mapTable (fun _ e => if e = .clear then .clear else .reported) u.states
    notice := { state := .outstanding, number := u.notice.number + 1, timer := startRepeat setting } }

/-- R197: an uptime second decrements a running repeat timer. -/
def EventUnit.uptimeSecond (u : EventUnit) : EventUnit :=
  { u with notice := { u.notice with timer := u.notice.timer.map (· - 1) } }

/-- R197: the expiry of the repeat timer is taken when the timer has reached 0 and the unit is OUTSTANDING. -/
def EventUnit.repeatExpired (u : EventUnit) : Bool :=
  u.notice.state == .outstanding && u.notice.timer == some 0

/-- R197: the expiry: the unit enters OWED, its timer stopped. -/
def EventUnit.owe (u : EventUnit) : EventUnit :=
  { u with notice := { u.notice with state := .owed, timer := none } }

/-- R61, R206: the event unit at the end of a core reset: cleared, and CLOCK_STOPPED raised when TIME_VALID is
no. The notice repeat setting is then its default. -/
def EventUnit.afterReset (timeValid : Bool) : EventUnit :=
  if timeValid then EventUnit.blank
  else EventUnit.blank.raise Settings.default.noticeRepeat .clockStopped

end Sys2Proof.Machine
end

