-- ==== Sys2Proof/Machine/State.lean ====
section
/-! DEFINITION. The state of the part, the reasons a step can stop, and the state after reset. -/

namespace Sys2Proof.Machine

/-- The faults of the part: none. The spec gives it no fault: every error is an event, a counter or the status of
a response (R150, R190). So no step ends in a fault, and nothing raises one. -/
inductive Fault where
  deriving DecidableEq, Repr

/-- The refusals. -/
inductive Refusal where
  /-- Raised by an arm of `exec` whose command has no meaning yet, with the row's mnemonic. Safe. No arm is so. -/
  | notModelled (mnemonic : String)
  deriving DecidableEq, Repr

/-- Everything the spec gives the part, and `pending`, the commands that wait (log 1). `draws` counts the free
values drawn (log 13, log 14) and `sent` holds the octets of the last transmission each line ended (log 23): both
are the model's own. `grantTimer` and `holdoffTimer` are in units of 10 ms: a timer that runs stands as loaded (log 8),
one that has run out at 0, and one that was stopped, outside a core reset, at what it held: DESIGN CHOICE (log 32). -/
structure State where
  pending : List Instr
  draws : Nat
  supply : Supply
  tk : Timekeeping
  uptime : Word32
  uptimeDivider : Nat
  station : Octet
  settings : Settings
  rx : PerLine Receiver
  store : Store
  queues : Vector Queue 8
  classifier : Classifier
  windows : Vector Window 24
  charge : Option Charge
  txA : TxA
  txB : TxB
  grantTimer : Nat
  holdoffTimer : Nat
  trunkMode : TrunkMode
  grant : Bool
  sent : PerLine (List Octet)
  mgmt : PerLine LineAgent
  restart : RestartState
  events : EventUnit
  counters : Vector Word32 121
  deriving DecidableEq, Repr

/-- The part right after a power-on with time loss, the core reset within it done (00_scope 1.6, R60 and the reset
rules of each chapter), before the events that follow it. The strap is a managed station and B_GNT is absent: DESIGN
CHOICE (log 11). Block contents: log 12. -/
def State.reset : State :=
  { pending := []
    draws := 0
    supply := .main
    tk := { Timekeeping.start with generation := 1 }
    uptime := 0
    uptimeDivider := 0
    station := Config.resetStrap
    settings := Settings.default
    rx := ⟨Receiver.seeking, Receiver.seeking⟩
    store := Store.rebuilt []
    queues := tabulate 8 Queue.blank
    classifier := Classifier.blank
    windows := tabulate 24 fun _ => Window.blank
    charge := none
    txA := .idle
    txB := .idle
    grantTimer := 0
    holdoffTimer := 0
    trunkMode := .running
    grant := false
    sent := ⟨[], []⟩
    mgmt := ⟨LineAgent.blank, LineAgent.blank⟩
    restart := .normal
    events := EventUnit.afterReset false
    counters := zeroCounters }

end Sys2Proof.Machine
end

