-- ==== Sys2Proof/Machine/Ops.lean ====
section
/-! DEFINITION. The named operations over the state that every command is written with: the two records of a line,
the octets of the blocks, the free list and frame records (chapter 6), counters (10.6), raises (R191), and the queue
manager's joins, departures and returns (chapter 1). -/

namespace Sys2Proof.Machine

/-! ## Line records -/

/-- The record of a line. -/
def PerLine.get {α : Type} (p : PerLine α) : Line → α
  | .a => p.a
  | .b => p.b

/-- The records with that of one line replaced. -/
def PerLine.set {α : Type} (p : PerLine α) (l : Line) (x : α) : PerLine α :=
  match l with
  | .a => { p with a := x }
  | .b => { p with b := x }

/-! ## Taking a command -/

/-- The answer of a command of the core domain: its effect while main supply powers that domain, and none while it
does not (R49). -/
def inCore (f : State → State) (s : State) : Host.Outcome State Fault Refusal :=
  .next (if s.supply = .main then f s else s)

/-! ## Counters -/

/-- R204: the number of counters of a group, in the order LINEA, LINEB, QUEUE, RULE, MGMT. -/
def groupSize : Fin 5 → Nat
  | 0 => 7
  | 1 => 9
  | 2 => 48
  | 3 => 50
  | 4 => 7

/-- The place of a group's first counter in the bank. -/
def groupBase : Fin 5 → Nat
  | 0 => 0
  | 1 => 7
  | 2 => 16
  | 3 => 64
  | 4 => 114

/-- The index of a line counter in its group (11.4). -/
def LineCounter.index : LineCounter → Fin 7
  | .goodFrames => 0
  | .checkErrors => 1
  | .aborts => 2
  | .runts => 3
  | .longFrames => 4
  | .storeDrops => 5
  | .framesSent => 6

/-- The index of a queue counter among its queue's six (11.4). -/
def QueueCounter.index : QueueCounter → Fin 6
  | .joined => 0
  | .released => 1
  | .fullDrops => 2
  | .ageDrops => 3
  | .retryDrops => 4
  | .flushed => 5

/-- The index of a MGMT counter in its group (11.4). -/
def MgmtCounter.index : MgmtCounter → Fin 7
  | .executed => 0
  | .duplicates => 1
  | .denied => 2
  | .overruns => 3
  | .malformed => 4
  | .noticesSent => 5
  | .responsesLost => 6

/-- The place of a counter in the bank: its group's base and its index in the group (11.4). -/
def Counter.place : Counter → Fin 121
  | .line .a c => ⟨c.index.val, by omega⟩
  | .line .b c => ⟨7 + c.index.val, by omega⟩
  | .grantTimeouts => 14
  | .grantLosses => 15
  | .queue q c => ⟨16 + (6 * q.val + c.index.val), by omega⟩
  | .ruleHit i => ⟨64 + i.val, by omega⟩
  | .outboundDefaultHits => 112
  | .inboundDefaultHits => 113
  | .mgmt c => ⟨114 + c.index.val, by omega⟩

/-- R204: an increment by n, stopping at 2^32 − 1. -/
def addStopping (c : Word32) (n : Nat) : Word32 := BitVec.ofNat 32 (min (c.toNat + n) 0xFFFFFFFF)

/-- The value of a counter. -/
def State.count (s : State) (c : Counter) : Word32 := s.counters[c.place]

/-- R204: a counter is incremented by n. -/
def bumpBy (c : Counter) (n : Nat) (s : State) : State :=
  { s with counters := s.counters.set c.place.val (addStopping s.counters[c.place] n) c.place.isLt }

/-- R204: a counter is incremented. -/
def bump (c : Counter) (s : State) : State := bumpBy c 1 s

/-- R105, R205: the counters of the bank from place `lo` on, `n` of them, set to 0. -/
def zeroRange (lo n : Nat) (v : Vector Word32 121) : Vector Word32 121 :=
  mapTable (fun i c => if lo ≤ i.val ∧ i.val < lo + n then 0 else c) v

/-! ## Events -/

/-- R191: an event is raised at the event unit. -/
def raise (e : Event) (s : State) : State :=
  { s with events := s.events.raise s.settings.noticeRepeat e }

/-- R191: an event is raised n times in one step. -/
def raiseTimes (e : Event) (n : Nat) (s : State) : State :=
  { s with events := EventUnit.raiseTimes s.settings.noticeRepeat e n s.events }

/-- R191, an event raised when a condition of its rule holds. -/
def raiseIf (c : Bool) (e : Event) (s : State) : State :=
  { s with events := if c then s.events.raise s.settings.noticeRepeat e else s.events }

/-! ## The octets of the blocks -/

/-- DESIGN CHOICE (log 12): what an octet that no frame has written reads as. -/
def memBlank : Octet := 0

/-- The octet at an address. -/
def memRead : List Host.Cell → Nat → Octet
  | [], _ => memBlank
  | (k, v) :: t, a => if k = a then v else memRead t a

/-- The memory with an octet written, in canonical form: addresses strictly rising, no entry that reads as an
unlisted address does. -/
def memWrite : List Host.Cell → Nat → Octet → List Host.Cell
  | [], a, o => if o = memBlank then [] else [(a, o)]
  | (k, v) :: t, a, o =>
    if a < k then (if o = memBlank then (k, v) :: t else (a, o) :: (k, v) :: t)
    else if a = k then (if o = memBlank then t else (a, o) :: t)
    else (k, v) :: memWrite t a o

/-- The canonical form of a memory. -/
def Memory.wf : List Host.Cell → Bool
  | [] => true
  | (k, v) :: t => v != memBlank && t.all (fun c => k < c.1) && Memory.wf t

/-- R111: the address of position p of block b. -/
def blockAddr (b : Block) (p : Nat) : Nat := 64 * b.val + p

/-- R113, R114: the k-th octet of a chain, counted from 0. -/
def Store.octetAt (st : Store) (chain : List Block) (k : Nat) : Octet :=
  memRead st.mem (blockAddr (chain.getD (k / 64) 0) (k % 64))

/-- R114: the octets of a frame, read from its blocks in chain order. -/
def Store.frameOctets (st : Store) (h : Block) : List Octet :=
  (List.range st.records[h].length).map (st.octetAt st.records[h].chain)

/-! ## Frame records -/

/-- The record of a frame handle (R113). -/
def State.record (s : State) (h : Block) : FrameRecord := s.store.records[h]

/-- The record of a frame handle replaced. -/
def setRecord (h : Block) (r : FrameRecord) (s : State) : State :=
  { s with store := { s.store with records := s.store.records.set h.val r h.isLt } }

/-- R3: a frame's chain length. -/
def chainLength (frameLength : Nat) : Nat := (frameLength + 63) / 64

/-! ## Claims and releases -/

/-- R112: the free count. -/
def State.freeCount (s : State) : Nat := s.store.free.length

/-- R115: whether a claim from the intake of a line succeeds. -/
def claimSucceeds (l : Line) (s : State) : Bool :=
  match l with
  | .a => s.settings.reserve < s.freeCount
  | .b => 1 ≤ s.freeCount

/-- R123: the STORE_LOW test of a successful claim, after the free count is decremented. -/
def lowTest (s : State) : State :=
  { s with
    events :=
      if s.store.armed && s.freeCount ≤ s.settings.lowWater then
        s.events.raise s.settings.noticeRepeat .storeLow
      else s.events
    store := { s.store with armed := s.store.armed && !(s.freeCount ≤ s.settings.lowWater) } }

/-- R115, R123: a claim: the block at the head of the free list, and the state after the claim; none when the
claim fails. -/
def claim (l : Line) (s : State) : Option (Block × State) :=
  if claimSucceeds l s then
    match s.store.free with
    | [] => none
    | b :: rest => some (b, lowTest { s with store := { s.store with free := rest } })
  else none

/-- R112, R124: a chain appended to the tail of the free list, and the re-arming test after the whole release. -/
def Store.release (lowWater : Nat) (chain : List Block) (st : Store) : Store :=
  { st with
    free := st.free ++ chain
    armed := st.armed || lowWater + 32 < st.free.length + chain.length }

/-- R112, R124: a release of a chain. -/
def releaseChain (chain : List Block) (s : State) : State :=
  { s with store := s.store.release s.settings.lowWater chain }

/-- R119: a whole frame leaves the store. -/
def releaseFrame (h : Block) (s : State) : State := releaseChain (s.record h).chain s

/-- R118: intake releases the partial chain of the frame it is receiving; with no block claimed there is nothing to
release (log 16). -/
def releaseReceiving (h : Option Block) (s : State) : State :=
  match h with
  | none => s
  | some h => releaseFrame h s

/-! ## Queues -/

/-- The record of a queue. -/
def State.queue (s : State) (q : QueueIx) : Queue := s.queues[q]

/-- A queue record replaced. -/
def setQueue (q : QueueIx) (x : Queue) (s : State) : State :=
  { s with queues := s.queues.set q.val x q.isLt }

/-- EXP (chapter 1). -/
def queueExp : QueueIx := 0

/-- INB (chapter 1). -/
def queueInb : QueueIx := 7

/-- The queue an outbound action names: 0 EXP, 1 to 6 S1 to S6. -/
def outQueue (k : Fin 7) : QueueIx := ⟨k.val, by omega⟩

/-- S1 to S6. -/
def isScheduled (q : QueueIx) : Bool := 1 ≤ q.val && q.val ≤ 6

/-- R3: the frame count of a queue. -/
def Queue.count (x : Queue) : Nat := x.frames.length

/-- R3: the blocks held by a queue. -/
def State.blocksHeld (s : State) (x : Queue) : Nat := (x.frames.map fun h => chainLength (s.record h).length).sum

/-- R4: the join of a frame at the tail of a queue, or its tail discard. -/
def join (q : QueueIx) (h : Block) (s : State) : State :=
  if (s.queue q).count < (s.queue q).limit then
    bump (.queue q .joined) (setQueue q { s.queue q with frames := (s.queue q).frames ++ [h] } s)
  else
    raise .queueDrop (bump (.queue q .fullDrops) (releaseFrame h s))

/-- R6, steps 1 and 2: the queue after the departure of its head. -/
def Queue.departed (x : Queue) : Queue := { x with frames := x.frames.tail, mark := x.mark - 1 }

/-- R7: the return of a frame to the head of its queue. -/
def returnToHead (q : QueueIx) (h : Block) (marked : Bool) (s : State) : State :=
  setQueue q
    { s.queue q with
      frames := h :: (s.queue q).frames
      mark := if marked then (s.queue q).mark + 1 else (s.queue q).mark } s

/-! ## Byte order -/

/-- R208: a 16-bit field, most significant octet first. -/
def be16 (w : Word16) : List Octet := [w.extractLsb' 8 8, w.extractLsb' 0 8]

/-- R208: a 32-bit field, most significant octet first. -/
def be32 (w : Word32) : List Octet :=
  [w.extractLsb' 24 8, w.extractLsb' 16 8, w.extractLsb' 8 8, w.extractLsb' 0 8]

/-- A one-octet number field. -/
def octet (n : Nat) : Octet := BitVec.ofNat 8 n

/-- R208: a two-octet number field. -/
def nat16 (n : Nat) : List Octet := be16 (BitVec.ofNat 16 n)

/-- R208: a three-octet number field. -/
def nat24 (n : Nat) : List Octet := [octet (n / 65536), octet (n / 256), octet n]

/-- R208: the number two octets hold. -/
def num16 (hi lo : Octet) : Nat := 256 * hi.toNat + lo.toNat

/-- R208: the number three octets hold. -/
def num24 (a b c : Octet) : Nat := 65536 * a.toNat + 256 * b.toNat + c.toNat

/-- The word two octets hold. -/
def word16 (hi lo : Octet) : Word16 := hi ++ lo

/-- R208: yes is 1, no is 0. -/
def yesNo (b : Bool) : Octet := if b then 1 else 0

/-- A named bit of a flag octet (R208). -/
def flagBit (w : Octet) (b : Bool) : Octet := if b then w else 0

/-! ## The check value -/

/-- R134: one bit taken into the check register. -/
def checkBit (c : Word16) (bit : Bool) : Word16 :=
  if c.msb != bit then (c <<< 1) ^^^ 0x1021 else c <<< 1

/-- R134: one octet taken into the check register, most significant bit first. -/
def checkOctet (c : Word16) (o : Octet) : Word16 :=
  [7, 6, 5, 4, 3, 2, 1, 0].foldl (fun c i => checkBit c (o.getLsbD i)) c

/-- R134: the check value of a list of octets. -/
def checkValue (os : List Octet) : Word16 := os.foldl checkOctet 0xFFFF

end Sys2Proof.Machine
end

