-- ==== Sys2Proof/Machine/Flags.lean ====
section
/-! DEFINITION. The conditions the part computes from its state: the mode, gates, eligibility and sponsors
(chapter 2), the trunk lines (R64), the class and authority of a request (R154), and the restart's standing. -/

namespace Sys2Proof.Machine

/-- R144: the part is managed unless its station was sampled as 0x00 or 0xFF. -/
def State.managed (s : State) : Bool := s.station != 0x00 && s.station != 0xFF

/-- R152: a restart is pending in RESTART_PENDING and RESTART_DUE. -/
def State.restartPending (s : State) : Bool := s.restart != .normal

/-- R23: the window lists the scheduled queue. -/
def WindowEntry.serves (e : WindowEntry) (q : QueueIx) : Bool := isScheduled q && e.queueSet.getLsbD q.val

/-- R30: the window is OPEN and lists the queue. -/
def Window.opensFor (w : Window) (q : QueueIx) : Bool := w.state.phase == .opened && w.entry.serves q

/-- R30: the gate of a scheduled queue. -/
def State.gateOpen (s : State) (q : QueueIx) : Bool :=
  if s.tk.timeValid then s.windows.toList.any (·.opensFor q) else (s.queue q).fallback == .release

/-- R31: a data queue is eligible. -/
def State.eligible (s : State) (q : QueueIx) : Bool :=
  !(s.queue q).frozen && !(s.queue q).frames.isEmpty &&
    (!isScheduled q || 0 < (s.queue q).mark || s.gateOpen q)

/-- R33: the lowest-numbered OPEN window that lists the queue, with its instance. -/
def State.openWindowFor (s : State) (q : QueueIx) : Option Sponsor :=
  ((List.finRange 24).find? fun i => s.windows[i].opensFor q).map fun i => ⟨i, s.windows[i].state.opening⟩

/-- R6, R33: the sponsor a departure of the queue's head is given: none for a marked frame, for EXP and INB, and
while TIME_VALID is no. -/
def State.sponsorOf (s : State) (q : QueueIx) : Option Sponsor :=
  if isScheduled q && s.tk.timeValid && (s.queue q).mark == 0 then s.openWindowFor q else none

/-- R64: B_REQ is asserted in REQUESTING and SENDING. -/
def State.bReq (s : State) : Bool :=
  match s.txB with
  | .idle => false
  | .requesting _ => true
  | .sending _ _ => true
  | .holdoff => false

/-- R64: the grant timer runs in REQUESTING, and is stopped in every other state. -/
def State.grantTimerRuns (s : State) : Bool :=
  match s.txB with
  | .idle => false
  | .requesting _ => true
  | .sending _ _ => false
  | .holdoff => false

/-- R64: the hold-off timer runs in HOLDOFF, and is stopped in every other state. -/
def State.holdoffTimerRuns (s : State) : Bool :=
  match s.txB with
  | .idle => false
  | .requesting _ => false
  | .sending _ _ => false
  | .holdoff => true

/-- R208: the code of the state of transmitter B. -/
def TxB.code : TxB → Octet
  | .idle => 0
  | .requesting _ => 1
  | .sending _ _ => 2
  | .holdoff => 3

/-- R208: the code of the trunk mode. -/
def TrunkMode.code : TrunkMode → Octet
  | .running => 0
  | .stopped => 1

/-- R154, R169: the class of a request: SET REMOTE ACCESS stands apart in the table of R154. -/
inductive RequestClass where
  | read
  | write
  | remoteAccess
  deriving DecidableEq, Repr

/-- R209: the request codes that are write-class whatever their parameters. -/
def writeCodes : List Octet :=
  [0x03, 0x11, 0x22, 0x23, 0x24, 0x31, 0x32, 0x33, 0x34, 0x35, 0x42, 0x50, 0x51, 0x61, 0x62, 0x70]

/-- R154: the class of a request by its code, and for READ COUNTERS by its clear flag. -/
def requestClass (code : Octet) (ps : List Octet) : RequestClass :=
  if code = 0x04 then .remoteAccess
  else if code = 0x63 then (if ps[3]? = some 1 then .write else .read)
  else if writeCodes.contains code then .write
  else .read

/-- R154: what the authority check decides. -/
inductive Authority where
  | proceeds
  | discarded
  | denied
  deriving DecidableEq, Repr

/-- R154: the authority of a request by its line, the REMOTE setting and its class. -/
def authority (l : Line) (r : Remote) (c : RequestClass) : Authority :=
  match l, r, c with
  | .a, _, _ => .proceeds
  | .b, .off, _ => .discarded
  | .b, .readOnly, .read => .proceeds
  | .b, .readOnly, .write => .denied
  | .b, .readOnly, .remoteAccess => .denied
  | .b, .full, .read => .proceeds
  | .b, .full, .write => .proceeds
  | .b, .full, .remoteAccess => .denied

end Sys2Proof.Machine
end

