-- ==== Sys2Proof/Machine/Operands.lean ====
section
/-! DEFINITION. The octet layouts of chapter 11: the parameters a request carries, read and checked, and the records a
response or notice carries, built. A reader answers none where a field is out of its range. -/

namespace Sys2Proof.Machine

/-! ## Enumerated fields (R208) -/

/-- R208: yes or no. -/
def readYesNo (o : Octet) : Option Bool := if o = 0 then some false else if o = 1 then some true else none

/-- R208: a queue index. -/
def readQueueIx (o : Octet) : Option QueueIx := if h : o.toNat < 8 then some ⟨o.toNat, h⟩ else none

/-- R209: a rule entry index. -/
def readEntryIx (o : Octet) : Option EntryIx := if h : o.toNat < 48 then some ⟨o.toNat, h⟩ else none

/-- R209: a window index. -/
def readWindowIx (o : Octet) : Option WindowIx := if h : o.toNat < 24 then some ⟨o.toNat, h⟩ else none

/-- R209: a counter group. -/
def readGroup (o : Octet) : Option (Fin 5) := if h : o.toNat < 5 then some ⟨o.toNat, h⟩ else none

/-- R208: a direction. -/
def readDirection (o : Octet) : Option Direction :=
  if o = 1 then some .outbound else if o = 2 then some .inbound else if o = 3 then some .both else none

/-- R208: the code of a direction. -/
def Direction.code : Direction → Octet
  | .outbound => 1
  | .inbound => 2
  | .both => 3

/-- R208: an action. -/
def readAction (o : Octet) : Option RuleAction :=
  if o = 0 then some .forward else if o = 1 then some .discard else none

/-- R208: the code of an action. -/
def RuleAction.code : RuleAction → Octet
  | .forward => 0
  | .discard => 1

/-- R177: the queue of a rule entry, EXP or S1 to S6. -/
def readOutQueue (o : Octet) : Option (Fin 7) := if h : o.toNat < 7 then some ⟨o.toNat, h⟩ else none

/-- R208: a fallback. -/
def readFallback (o : Octet) : Option Fallback :=
  if o = 0 then some .hold else if o = 1 then some .release else none

/-- R208: the code of a fallback. -/
def Fallback.code : Fallback → Octet
  | .hold => 0
  | .release => 1

/-- R208: an outbound default action. -/
def readOutboundDefault (o : Octet) : Option OutboundDefault :=
  if h : o.toNat < 7 then some (.forward ⟨o.toNat, h⟩) else if o = 7 then some .discard else none

/-- R208: the code of an outbound default action. -/
def OutboundDefault.code : OutboundDefault → Octet
  | .forward q => octet q.val
  | .discard => 7

/-- R208: an inbound default action. -/
def readInboundDefault (o : Octet) : Option InboundDefault :=
  if o = 0 then some .forward else if o = 1 then some .discard else none

/-- R208: the code of an inbound default action. -/
def InboundDefault.code : InboundDefault → Octet
  | .forward => 0
  | .discard => 1

/-- R208: a notice line, none for NONE. -/
def readNoticeLine (o : Octet) : Option (Option Line) :=
  if o = 0 then some (some .a) else if o = 1 then some (some .b) else if o = 2 then some none else none

/-- R208: the code of a notice line. -/
def noticeLineCode : Option Line → Octet
  | some .a => 0
  | some .b => 1
  | none => 2

/-- R208: a REMOTE value. -/
def readRemote (o : Octet) : Option Remote :=
  if o = 0 then some .off else if o = 1 then some .readOnly else if o = 2 then some .full else none

/-- R208: the code of a REMOTE value. -/
def Remote.code : Remote → Octet
  | .off => 0
  | .readOnly => 1
  | .full => 2

/-- R208: a restart scope. -/
def readScope (o : Octet) : Option Scope :=
  if o = 0 then some .traffic else if o = 1 then some .full else none

/-- R208: the code of a restart scope. -/
def Scope.code : Scope → Octet
  | .traffic => 0
  | .full => 1

/-- R208: the code of a window state. -/
def WindowPhase.code : WindowPhase → Octet
  | .closed => 0
  | .opened => 1
  | .spent => 2

/-- R208: the code of an event state. -/
def EventState.code : EventState → Octet
  | .clear => 0
  | .unreported => 1
  | .reported => 2

/-- R208: the code of a notice unit state. -/
def NoticeState.code : NoticeState → Octet
  | .quiet => 0
  | .owed => 1
  | .outstanding => 2

/-! ## The settings record (R170, R209) -/

/-- R170, R172: every field of the record is within its range. -/
def Settings.inRange (t : Settings) : Bool :=
  16 ≤ t.maxFrameLength && t.maxFrameLength ≤ 1023 && t.reserve ≤ 128 && t.lowWater ≤ 255 &&
    t.noticeStation != 0x00 && t.noticeStation != 0xFF && t.noticeRepeat ≤ 255 &&
    1 ≤ t.grantTimeout && t.grantTimeout ≤ 255 && t.holdOff ≤ 255 && t.retryLimit ≤ 7 &&
    1 ≤ t.gapDelimiters && t.gapDelimiters ≤ 16

/-- R172: the settings record WRITE SETTINGS carries, with the REMOTE value kept; none for BAD_VALUE. -/
def Settings.read (remote : Remote) : List Octet → Option Settings
  | [m1, m2, re, lw, od, ib, nl, ns, nr, gt, ho, rl, gd] =>
    match readOutboundDefault od, readInboundDefault ib, readNoticeLine nl with
    | some o, some i, some n =>
      let t : Settings :=
        { maxFrameLength := num16 m1 m2
          reserve := re.toNat
          lowWater := lw.toNat
          outboundDefault := o
          inboundDefault := i
          noticeLine := n
          noticeStation := ns
          noticeRepeat := nr.toNat
          grantTimeout := gt.toNat
          holdOff := ho.toNat
          retryLimit := rl.toNat
          gapDelimiters := gd.toNat
          remote := remote }
      if t.inRange then some t else none
    | _, _, _ => none
  | _ => none

/-- R209: the thirteen octets of the settings record without REMOTE. -/
def Settings.octets (t : Settings) : List Octet :=
  nat16 t.maxFrameLength ++
    [octet t.reserve, octet t.lowWater, t.outboundDefault.code, t.inboundDefault.code, noticeLineCode t.noticeLine,
      t.noticeStation, octet t.noticeRepeat, octet t.grantTimeout, octet t.holdOff, octet t.retryLimit,
      octet t.gapDelimiters]

/-- R209: the settings record as READ SETTINGS returns it, REMOTE last. -/
def Settings.record (t : Settings) : List Octet := t.octets ++ [t.remote.code]

/-! ## Rule entries (R91, R177, R209) -/

/-- R177: the payload probe of an entry; `none` for BAD_VALUE, `some none` for an absent probe. -/
def readProbe (present : Bool) (offset value mask : Octet) : Option (Option Probe) :=
  if present then
    if offset.toNat ≤ 31 then some (some ⟨offset.toNat, value, mask⟩) else none
  else some none

/-- R177: the length range of an entry; `none` for BAD_VALUE, `some none` for an absent range. -/
def readLengths (present : Bool) (lo hi : Nat) : Option (Option LengthRange) :=
  if present then
    if 3 ≤ lo && lo ≤ 1023 && 3 ≤ hi && hi ≤ 1023 && lo ≤ hi then some (some ⟨lo, hi⟩) else none
  else some none

/-- R177, R209: the rule entry of 17 octets; none for BAD_VALUE. -/
def RuleEntry.read : List Octet → Option RuleEntry
  | [fl, di, ac, qu, dv, dm, sv, sm, kv, km, po, pv, pm, l1, l2, h1, h2] =>
    match readDirection di, readAction ac, readOutQueue qu, readProbe (fl.getLsbD 5) po pv pm,
      readLengths (fl.getLsbD 4) (num16 l1 l2) (num16 h1 h2) with
    | some d, some a, some q, some p, some r =>
      some
        { valid := fl.getLsbD 7
          last := fl.getLsbD 6
          direction := d
          destination := ⟨dv, dm⟩
          source := ⟨sv, sm⟩
          kind := ⟨kv, km⟩
          probe := p
          lengths := r
          action := a
          queue := q }
    | _, _, _, _, _ => none
  | _ => none

/-- R209: the octets of a payload probe, 0 when it is absent. -/
def probeOctets : Option Probe → List Octet
  | none => [0, 0, 0]
  | some p => [octet p.offset, p.value, p.mask]

/-- R209: the octets of a length range, 0 when it is absent. -/
def lengthsOctets : Option LengthRange → List Octet
  | none => [0, 0, 0, 0]
  | some r => nat16 r.minimum ++ nat16 r.maximum

/-- R209: the 17 octets of a rule entry. -/
def RuleEntry.octets (e : RuleEntry) : List Octet :=
  [flagBit 0x80 e.valid ||| flagBit 0x40 e.last ||| flagBit 0x20 e.probe.isSome ||| flagBit 0x10 e.lengths.isSome,
    e.direction.code, e.action.code, octet e.queue.val, e.destination.value, e.destination.mask, e.source.value,
    e.source.mask, e.kind.value, e.kind.mask] ++ probeOctets e.probe ++ lengthsOctets e.lengths

/-! ## Window entries and states (R23, R24, R183, R209) -/

/-- R183: an hour, or ANY; none for BAD_VALUE. -/
def readHour (o : Octet) : Option (Option Nat) :=
  if o = 0xFF then some none else if o.toNat ≤ 23 then some (some o.toNat) else none

/-- R183, R209: a weekday set, or ANY; none for an empty set. -/
def readWeekdays (o : Octet) : Option (Option (BitVec 7)) :=
  if o.getLsbD 7 then some none
  else if o.extractLsb' 0 7 = 0 then none
  else some (some (o.extractLsb' 0 7))

/-- R183: a day of month, or ANY; none for BAD_VALUE. -/
def readDay (o : Octet) : Option (Option Nat) :=
  if o = 0xFF then some none else if 1 ≤ o.toNat && o.toNat ≤ 31 then some (some o.toNat) else none

/-- R183, R209: the window entry of 11 octets; none for BAD_VALUE. -/
def WindowEntry.read : List Octet → Option WindowEntry
  | [en, mi, ho, wd, da, d1, d2, b1, b2, b3, qs] =>
    match readHour ho, readWeekdays wd, readDay da with
    | some h, some w, some d =>
      if mi.toNat ≤ 59 && 1 ≤ num16 d1 d2 && num16 d1 d2 ≤ 1439 && qs &&& 0x7E != 0 then
        some
          { enabled := en.getLsbD 7
            minute := mi.toNat
            hour := h
            weekdays := w
            day := d
            duration := num16 d1 d2
            budget := num24 b1 b2 b3
            queueSet := qs &&& 0x7E }
      else none
    | _, _, _ => none
  | _ => none

/-- R209: a number field, or 0xFF for ANY. -/
def orAny : Option Nat → Octet
  | none => 0xFF
  | some n => octet n

/-- R209: a weekday set octet; ANY is stored and returned as 0x80. -/
def weekdaysOctet : Option (BitVec 7) → Octet
  | none => 0x80
  | some w => w.setWidth 8

/-- R209: the 11 octets of a window entry. -/
def WindowEntry.octets (e : WindowEntry) : List Octet :=
  [flagBit 0x80 e.enabled, octet e.minute, orAny e.hour, weekdaysOctet e.weekdays, orAny e.day] ++
    nat16 e.duration ++ nat24 e.budget ++ [e.queueSet]

/-- R210: the 8 octets of a window state record. -/
def WindowState.octets (w : WindowState) : List Octet :=
  [w.phase.code] ++ nat16 w.minutes ++ nat24 w.budget ++ be16 w.opening

/-! ## Calendar (R47, R53, R210) -/

/-- R48: the days of a month in a year. -/
def daysIn (month year : Nat) : Nat :=
  if month = 2 then (if year % 4 = 0 then 29 else 28)
  else if month = 4 || month = 6 || month = 9 || month = 11 then 30
  else 31

/-- R47, R53: every calendar field is within its range, and the day is one of the month's. -/
def Calendar.valid (c : Calendar) : Bool :=
  c.second ≤ 59 && c.minute ≤ 59 && c.hour ≤ 23 && c.weekday ≤ 6 && 1 ≤ c.month && c.month ≤ 12 &&
    c.year ≤ 99 && 1 ≤ c.day && c.day ≤ daysIn c.month c.year

/-- R53, R209: the calendar SET TIME carries; none for BAD_VALUE. -/
def Calendar.read : List Octet → Option Calendar
  | [se, mi, ho, wd, da, mo, ye] =>
    let c : Calendar :=
      { second := se.toNat
        minute := mi.toNat
        hour := ho.toNat
        weekday := wd.toNat
        day := da.toNat
        month := mo.toNat
        year := ye.toNat }
    if c.valid then some c else none
  | _ => none

/-- R210: the seven octets of a calendar. -/
def Calendar.octets (c : Calendar) : List Octet :=
  [octet c.second, octet c.minute, octet c.hour, octet c.weekday, octet c.day, octet c.month, octet c.year]

/-- R56, R210: the time snapshot, as the time record of 14 octets. -/
def State.timeRecord (s : State) : List Octet :=
  s.tk.cal.octets ++ [flagBit 0x80 s.tk.timeValid ||| flagBit 0x40 (s.tk.crystal == .running)] ++
    be32 s.uptime ++ be16 s.tk.generation

/-! ## Queues, events, counters (R20, R185 to R187, R210) -/

/-- R20, R210: the snapshot of a queue, as the queue record of 11 octets. -/
def State.queueRecord (s : State) (q : QueueIx) : List Octet :=
  [octet (s.queue q).limit] ++ nat16 (s.queue q).maxAge ++
    [if isScheduled q then (s.queue q).fallback.code else Fallback.hold.code] ++
    nat16 (s.queue q).count ++ nat16 (s.blocksHeld (s.queue q)) ++ nat16 (s.queue q).mark ++
    [yesNo (s.queue q).frozen]

/-- R181: frame count, release mark and frozen flag, as they stand. -/
def State.queueFigures (s : State) (q : QueueIx) : List Octet :=
  nat16 (s.queue q).count ++ nat16 (s.queue q).mark ++ [yesNo (s.queue q).frozen]

/-- R185: the sixteen event states in event number order. -/
def EventUnit.stateOctets (u : EventUnit) : List Octet := u.states.toList.map EventState.code

/-- R205: the values of `n` counters of the bank from place `lo` on. -/
def State.counterOctets (s : State) (lo n : Nat) : List Octet :=
  (((s.counters.toList.drop lo).take n).map be32).flatten

/-- R196, R210: the payload of a notice with the given number, built from the state before the build. -/
def State.noticePayload (s : State) (number : Octet) : List Octet :=
  [number] ++ be16 s.events.pendingSet ++ be16 s.events.newSet ++ be32 s.uptime ++ [flagBit 0x80 s.tk.timeValid]

end Sys2Proof.Machine
end

