-- ==== Sys2Proof/Machine/Schedule.lean ====
section
/-! DEFINITION. The schedule unit (chapter 2): matching, the minute boundary, charges, the close of a window and the
edit of an entry. -/

namespace Sys2Proof.Machine

/-- R25: the entry's weekday set is ANY or contains the weekday. -/
def WindowEntry.weekdayOk (e : WindowEntry) (weekday : Nat) : Bool :=
  match e.weekdays with
  | none => true
  | some w => w.getLsbD weekday

/-- R25: a field that is ANY or equals the calendar's. -/
def anyOrEqual (field : Option Nat) (value : Nat) : Bool :=
  match field with
  | none => true
  | some n => n == value

/-- R25: the entry matches a calendar time. -/
def WindowEntry.isMatch (e : WindowEntry) (c : Calendar) : Bool :=
  e.enabled && e.minute == c.minute && anyOrEqual e.hour c.hour && e.weekdayOk c.weekday && anyOrEqual e.day c.day

/-- R24: the window is OPEN or SPENT. -/
def WindowState.running (w : WindowState) : Bool := w.phase != .closed

/-- R26, R39, R41: the close of a window: CLOSED, minutes 0, the remaining budget and the instance kept. -/
def WindowState.close (w : WindowState) : WindowState := { w with phase := .closed, minutes := 0 }

/-- R26: the window's minutes run out at this boundary. -/
def WindowState.runsOut (w : WindowState) : Bool := w.running && w.minutes ≤ 1

/-- R26, the first step of a minute boundary at one window. -/
def WindowState.countDown (w : WindowState) : WindowState :=
  if w.running then (if w.minutes ≤ 1 then w.close else { w with minutes := w.minutes - 1 }) else w

/-- R27: the window opens at this boundary, after the first step. -/
def Window.opensAt (c : Calendar) (w : Window) : Bool := w.state.phase == .closed && w.entry.isMatch c

/-- R27, the second step of a minute boundary at one window. -/
def Window.openAt (c : Calendar) (w : Window) : Window :=
  if w.opensAt c then
    { w with
      state :=
        { phase := .opened
          minutes := w.entry.duration
          budget := w.entry.budget
          opening := w.state.opening + 1 } }
  else w

/-- R26: the first step at one window. -/
def Window.countDown (w : Window) : Window := { w with state := w.state.countDown }

/-- R26, R27: both steps of a minute boundary at one window. -/
def Window.boundary (c : Calendar) (w : Window) : Window := w.countDown.openAt c

/-- R26, R27: the operation of the schedule unit at a minute boundary, with the calendar time it has produced:
nothing while TIME_VALID is no, else the closings and then the openings, each raised. -/
def windowsBoundary (c : Calendar) (s : State) : State :=
  if s.tk.timeValid then
    raiseTimes .windowOpened (s.windows.toList.countP fun w => w.countDown.opensAt c)
      (raiseTimes .windowClosed (s.windows.toList.countP fun w => w.state.runsOut)
        { s with windows := mapTable (fun _ w => w.boundary c) s.windows })
  else s

/-- R41: an oscillator stop closes every window in OPEN or SPENT and raises WINDOW_CLOSED for each. -/
def closeWindows (s : State) : State :=
  raiseTimes .windowClosed (s.windows.toList.countP fun w => w.state.running)
    { s with
      windows := mapTable (fun _ w => if w.state.running then { w with state := w.state.close } else w) s.windows }

/-- R34: the charge is taken against the window: it is OPEN, the instances are equal and the budget is nonzero. -/
def Window.takesCharge (opening : Word16) (w : Window) : Bool :=
  w.state.phase == .opened && w.state.opening == opening && w.entry.budget != 0

/-- R34: the charge brings the remaining budget to 0 or below. -/
def Window.spentBy (length : Nat) (opening : Word16) (w : Window) : Bool :=
  w.takesCharge opening && w.state.budget ≤ length

/-- R34: a charge at one window. -/
def Window.charged (length : Nat) (opening : Word16) (w : Window) : Window :=
  if w.takesCharge opening then
    { w with
      state :=
        { w.state with
          budget := w.state.budget - length
          phase := if w.state.budget ≤ length then .spent else .opened } }
  else w

/-- A window replaced. -/
def setWindow (i : WindowIx) (w : Window) (s : State) : State :=
  { s with windows := s.windows.set i.val w i.isLt }

/-- R34: the schedule unit takes the outstanding charge, if there is one. -/
def takeCharge (s : State) : State :=
  match s.charge with
  | none => s
  | some c =>
    raiseIf (s.windows[c.sponsor.window].spentBy c.length c.sponsor.opening) .budgetSpent
      (setWindow c.sponsor.window (s.windows[c.sponsor.window].charged c.length c.sponsor.opening)
        { s with charge := none })

/-- R39, R40: WRITE WINDOW at the schedule unit: an OPEN or SPENT window is first closed and WINDOW_CLOSED raised;
then the entry is stored. -/
def writeWindow (i : WindowIx) (e : WindowEntry) (s : State) : State :=
  raiseIf s.windows[i].state.running .windowClosed
    (setWindow i
      { entry := e, state := if s.windows[i].state.running then s.windows[i].state.close else s.windows[i].state } s)

end Sys2Proof.Machine
end

