-- ==== Sys2Proof/Machine/Agent.lean ====
section
/-! DEFINITION. The management agent's slots and caches (8.2, 8.4) and the request event (8.3). What a request of each
code does at execution is in Machine/Catalogue.lean. -/

namespace Sys2Proof.Machine

/-! ## Slots of one line -/

/-- A slot replaced. -/
def LineAgent.setSlot (g : LineAgent) (i : SlotIx) (x : Slot) : LineAgent :=
  { g with slots := g.slots.set i.val x i.isLt }

/-- R156: the lowest-numbered FREE slot. -/
def LineAgent.firstFree (g : LineAgent) : Option SlotIx := (List.finRange 4).find? fun i => g.slots[i].state == .free

/-- R65: the QUEUED slot that entered QUEUED first. -/
def LineAgent.nextQueued (g : LineAgent) : Option SlotIx := g.order.find? fun i => g.slots[i].state == .queued

/-- The line's cache names the slot (R152). -/
def LineAgent.isCacheSlot (g : LineAgent) (i : SlotIx) : Bool :=
  match g.cache with
  | none => false
  | some c => c.slot == i

/-- R154, R157, R158, R161: a frame is placed in a slot, QUEUED at the end of the line's queued order, with attempt
count 0. -/
def LineAgent.place (g : LineAgent) (i : SlotIx) (f : SlotFrame) : LineAgent :=
  { g with
    slots := g.slots.set i.val { state := .queued, content := some f, attempts := 0 } i.isLt
    order := g.order.filter (· != i) ++ [i] }

/-- R155: a CACHED slot is QUEUED again, behind every slot already QUEUED, with attempt count 0. -/
def LineAgent.requeue (g : LineAgent) (i : SlotIx) : LineAgent :=
  { g with
    slots := g.slots.set i.val { g.slots[i] with state := .queued, attempts := 0 } i.isLt
    order := g.order.filter (· != i) ++ [i] }

/-- R67, R160: a slot is selected; its queue position is kept. -/
def LineAgent.startSending (g : LineAgent) (i : SlotIx) : LineAgent :=
  g.setSlot i { g.slots[i] with state := .sending }

/-- R74, R160: a slot returns to QUEUED with its attempt count, keeping its place. -/
def LineAgent.backToQueued (g : LineAgent) (i : SlotIx) (attempts : Nat) : LineAgent :=
  g.setSlot i { g.slots[i] with state := .queued, attempts := attempts }

/-- R160: the slot at the end of its sending: CACHED if it is the line's cache slot, FREE otherwise. -/
def LineAgent.endedSlot (g : LineAgent) (i : SlotIx) : Slot :=
  if g.isCacheSlot i then { g.slots[i] with state := .cached } else Slot.blank

/-- R160: a slot's sending ends. -/
def LineAgent.endSending (g : LineAgent) (i : SlotIx) : LineAgent :=
  { g with
    slots := g.slots.set i.val (g.endedSlot i) i.isLt
    order := g.order.filter (· != i) }

/-- R158, steps 3 and 4: the previous cache slot, if it is CACHED, becomes FREE, and the cache takes the request and
its slot. -/
def LineAgent.moveCache (g : LineAgent) (c : Cache) : LineAgent :=
  { g with
    slots :=
      match g.cache with
      | none => g.slots
      | some old =>
        if g.slots[old.slot].state = .cached then g.slots.set old.slot.val Slot.blank old.slot.isLt else g.slots
    cache := some c }

/-- R164: a slot at a traffic restart: SENDING becomes CACHED if it is the cache slot and FREE otherwise; QUEUED
becomes FREE unless it is the cache slot; the others stay. -/
def LineAgent.restartedSlot (g : LineAgent) (i : SlotIx) : Slot :=
  match g.slots[i].state with
  | .free => g.slots[i]
  | .queued => if g.isCacheSlot i then g.slots[i] else Slot.blank
  | .sending => g.endedSlot i
  | .cached => g.slots[i]

/-- R164: the agent's records of a line at a traffic restart. -/
def LineAgent.trafficRestart (g : LineAgent) : LineAgent :=
  { g with
    slots := tabulate 4 g.restartedSlot
    order := g.order.filter fun i => (g.restartedSlot i).state == .queued }

/-! ## The agent in the state -/

/-- The agent's records of a line. -/
def State.agent (s : State) (l : Line) : LineAgent := s.mgmt.get l

/-- The agent's records of a line replaced. -/
def setAgent (l : Line) (g : LineAgent) (s : State) : State := { s with mgmt := s.mgmt.set l g }

/-- R163: the report of a slot's end, where the slot is the response slot of a RESTART in RESTART_PENDING: the restart
is due and the deadline timer stops. -/
def RestartState.slotEnded (l : Line) (i : SlotIx) : RestartState → RestartState
  | .normal => .normal
  | .pending sc l' i' t => if l' = l ∧ i' = i then .due sc l' i' else .pending sc l' i' t
  | .due sc l' i' => .due sc l' i'

/-- R160, R163: a transmitter reports the end of a slot's sending. -/
def slotEnded (l : Line) (i : SlotIx) (s : State) : State :=
  { s with mgmt := s.mgmt.set l ((s.agent l).endSending i), restart := s.restart.slotEnded l i }

/-! ## The request event -/

/-- R150: the status of a response. -/
inductive Status where
  | ok
  | badRequest
  | badIndex
  | badValue
  | busy
  | denied
  | notRunning
  deriving DecidableEq, Repr

/-- R150: the code of a status. -/
def Status.code : Status → Octet
  | .ok => 0
  | .badRequest => 1
  | .badIndex => 2
  | .badValue => 3
  | .busy => 4
  | .denied => 5
  | .notRunning => 6

/-- R148: a request as recognition hands it to the agent. -/
structure Request where
  line : Line
  src : Octet
  seq : Octet
  code : Octet
  params : List Octet
  deriving DecidableEq, Repr

/-- What an execution hands back: the status, the response data and the state its owner leaves. -/
structure Reply where
  status : Status
  data : List Octet
  state : State

/-- A request refused at execution: it has changed nothing (R150, R168). -/
def refuse (st : Status) (s : State) : Reply := { status := st, data := [], state := s }

/-- A request carried out, with its response data. -/
def carryOut (data : List Octet) (s : State) : Reply := { status := .ok, data := data, state := s }

/-- The execution of a request: from its line, the slot found at step 3, its parameters and the state (R158). -/
abbrev Execution := Line → SlotIx → List Octet → State → Reply

/-- R149, R210: the frame of a response. A status other than OK has no data. -/
def responseFrame (r : Request) (st : Status) (data : List Octet) : SlotFrame :=
  { role := .response
    destination := r.src
    kind := 0xE2
    payload := [r.seq, r.code, st.code] ++ (if st = .ok then data else []) }

/-- R154, R157, R158: a response is placed in a slot of its request's line. -/
def answer (r : Request) (i : SlotIx) (st : Status) (data : List Octet) (s : State) : State :=
  setAgent r.line ((s.agent r.line).place i (responseFrame r st data)) s

/-- R155: the request's sequence and code equal those of its line's cache. -/
def LineAgent.isDuplicate (g : LineAgent) (seq code : Octet) : Bool :=
  match g.cache with
  | none => false
  | some c => c.seq == seq && c.code == code

/-- R155: the agent's records of a line after a duplicate: a CACHED response is sent again; one not yet sent is left. -/
def LineAgent.afterDuplicate (g : LineAgent) : LineAgent :=
  match g.cache with
  | none => g
  | some c => if g.slots[c.slot].state = .cached then g.requeue c.slot else g

/-- R158: execution: the effect, the response placed, the executed counter and the move of the cache. -/
def execute (run : Execution) (r : Request) (i : SlotIx) (s : State) : State :=
  let reply := run r.line i r.params s
  let placed := bump (.mgmt .executed) (answer r i reply.status reply.data reply.state)
  setAgent r.line ((placed.agent r.line).moveCache ⟨r.seq, r.code, i⟩) placed

/-- R154: a line B request is DENIED: answered in the lowest-numbered FREE slot, or counted as an overrun. -/
def answerDenied (r : Request) (s : State) : State :=
  match (s.agent r.line).firstFree with
  | none => bump (.mgmt .overruns) s
  | some i => answer r i .denied [] s

/-- R156 to R158: steps 3 to 5 of the request event. -/
def takeWithSlot (run : Execution) (r : Request) (s : State) : State :=
  match (s.agent r.line).firstFree with
  | none => bump (.mgmt .overruns) s
  | some i => if s.restartPending then answer r i .busy [] s else execute run r i s

/-- R155 to R158: steps 2 to 5 of the request event. -/
def takeAuthorised (run : Execution) (r : Request) (s : State) : State :=
  if (s.agent r.line).isDuplicate r.seq r.code then
    setAgent r.line (s.agent r.line).afterDuplicate (bump (.mgmt .duplicates) s)
  else takeWithSlot run r s

/-- R153, R154: the request event from step 1 on. -/
def takeRequest (run : Execution) (r : Request) (s : State) : State :=
  match authority r.line s.settings.remote (requestClass r.code r.params) with
  | .proceeds => takeAuthorised run r s
  | .discarded => raise .accessDenied (bump (.mgmt .denied) s)
  | .denied => raise .accessDenied (bump (.mgmt .denied) (answerDenied r s))

/-- A request command: the request event while the core domain is powered and the part is managed, since no request
reaches the agent of an unmanaged part (R90, R145). -/
def requestCommand (run : Execution) (r : Request) (s : State) : Host.Outcome State Fault Refusal :=
  inCore (fun s => if s.managed then takeRequest run r s else s) s

end Sys2Proof.Machine
end

