-- ==== Sys2Proof/Machine/Transmission.lean ====
section
/-! DEFINITION. Selectors and transmitters (chapter 4) and the octets they put on their lines (7.3), with the meanings
of the transmission events. An event whose state is not the one its rule names is not taken (log 2). -/

namespace Sys2Proof.Machine

/-! ## The transmitted stream (R142, R143) -/

/-- R142: an octet as sent, escaped where it would be mistaken for a marker. -/
def escapeOctet (o : Octet) : List Octet := if o = 0xC3 ∨ o = 0xC9 then [0xC9, o ^^^ 0x10] else [o]

/-- R142: a frame as sent: opening delimiter, octets and check value with escapes, closing delimiter. -/
def frameStream (os : List Octet) : List Octet :=
  [0xC3] ++ (os ++ be16 (checkValue os)).flatMap escapeOctet ++ [0xC3]

/-- R143: what a line carried of a transmission cut after `sent` of its octets, with the cancel marker. -/
def cutStream (sent : Nat) (stream : List Octet) : List Octet :=
  let before := stream.take (sent % stream.length)
  before ++ (if before.getLast? = some 0xC9 then [0xC3] else [0xC9, 0xC3])

/-- R149: the header and payload octets of a slot, sent with the station as source. -/
def slotOctets (s : State) (l : Line) (i : SlotIx) : List Octet :=
  match (s.agent l).slots[i].content with
  | none => []
  | some f => [f.destination, s.station, f.kind] ++ f.payload

/-- R71: the header and payload octets of what is in flight on a line. -/
def inFlightOctets (s : State) (l : Line) : InFlight → List Octet
  | .frame _ h _ _ => s.store.frameOctets h
  | .slot i => slotOctets s l i

/-- R143: a transmitter sends a cancel marker in place of the rest of its transmission. How much had been sent is a
free value (log 14). -/
def cancelSending (l : Line) (stream : List Octet) (s : State) : State :=
  { s with
    sent := s.sent.set l (cutStream (Config.octetsSent s.draws) stream)
    draws := s.draws + 1 }

/-- The cancel marker of transmitter A at a restart or reset, if it is SENDING (R86, R87). -/
def cancelA (s : State) : State :=
  match s.txA with
  | .idle => s
  | .sending _ stream => cancelSending .a stream s

/-- The cancel marker of transmitter B at a restart or reset, if it is SENDING (R86, R87). -/
def cancelB (s : State) : State :=
  match s.txB with
  | .idle => s
  | .requesting _ => s
  | .sending _ stream => cancelSending .b stream s
  | .holdoff => s

/-! ## What a line carries (R142, R143) -/

/-- R142: idle fill: delimiters, one after another. -/
def idleFill : Octet := 0xC3

/-- R142, R143: the octets of the transmission a line is sending or, where its transmitter sends none, of the last one it
ended, a cancel marker included; none before the first (log 23). -/
def State.transmission (s : State) : Line → List Octet
  | .a =>
    match s.txA with
    | .idle => s.sent.a
    | .sending _ stream => stream
  | .b =>
    match s.txB with
    | .idle => s.sent.b
    | .requesting _ => s.sent.b
    | .sending _ stream => stream
    | .holdoff => s.sent.b

/-- R142, R143: the octet a line carries at a place counted from the start of that transmission: its own octets, and idle
fill after them until the next transmission begins. -/
def State.lineOctet (s : State) (l : Line) (k : Nat) : Octet := (s.transmission l).getD k idleFill

/-- R142: the bit on ATXD or BTXD at a place counted so: the octets of the line, most significant bit of each first. -/
def State.lineBit (s : State) (l : Line) (n : Nat) : Bool := (s.lineOctet l (n / 8)).getMsbD (n % 8)

/-! ## Selection -/

/-- A source a selector can take: a slot, or a queue with its head. -/
inductive Source where
  | slot (i : SlotIx)
  | queue (q : QueueIx) (h : Block)
  deriving DecidableEq, Repr

/-- R31: the head of a queue, when the queue is eligible. -/
def State.eligibleHead (s : State) (q : QueueIx) : Option Source :=
  if s.eligible q then (s.queue q).frames.head?.map (.queue q) else none

/-- R65: the source selector B takes: a QUEUED slot, then, in RUNNING, EXP and S1 to S6 in ascending number. -/
def State.sourceB (s : State) : Option Source :=
  match (s.agent .b).nextQueued with
  | some i => some (.slot i)
  | none =>
    match s.trunkMode with
    | .running => ([0, 1, 2, 3, 4, 5, 6] : List QueueIx).findSome? s.eligibleHead
    | .stopped => none

/-- R84: the source selector A takes: a QUEUED slot, then INB. -/
def State.sourceA (s : State) : Option Source :=
  match (s.agent .a).nextQueued with
  | some i => some (.slot i)
  | none => s.eligibleHead queueInb

/-- R6, R33, R66, R67: the in-flight record of a source taken. -/
def State.inFlightOf (s : State) : Source → InFlight
  | .slot i => .slot i
  | .queue q h => .frame q h (0 < (s.queue q).mark) (s.sponsorOf q)

/-- R6, R67: the source leaves its queue, or its slot becomes SENDING. -/
def takeSource (l : Line) (src : Source) (s : State) : State :=
  match src with
  | .slot i => setAgent l ((s.agent l).startSending i) s
  | .queue q _ => setQueue q (s.queue q).departed s

/-- R69: transmitter B with a new in-flight record, the grant timer loaded: REQUESTING, or SENDING at once where B_GNT is
present. The timer then stops in the same event and holds what it was loaded with: DESIGN CHOICE (log 32). -/
def requestGrant (f : InFlight) (s : State) : State :=
  { s with
    grantTimer := s.settings.grantTimeout
    txB := if s.grant then .sending f (frameStream (inFlightOctets s .b f)) else .requesting f }

/-- R65: a selection of selector B. -/
def selectB (s : State) : State :=
  match s.sourceB with
  | none => s
  | some src => requestGrant (s.inFlightOf src) (takeSource .b src s)

/-- R84: a selection of selector A, which leaves transmitter A IDLE where no source is eligible. -/
def selectA (s : State) : State :=
  match s.sourceA with
  | none => { s with txA := .idle }
  | some src =>
    let s1 := takeSource .a src s
    { s1 with txA := .sending (s.inFlightOf src) (frameStream (inFlightOctets s1 .a (s.inFlightOf src))) }

/-- R79: the continuation on line B under the same grant, with gap delimiters; without a source, IDLE. -/
def continueB (s : State) : State :=
  match s.sourceB with
  | none => { s with txB := .idle }
  | some src =>
    let s1 := takeSource .b src s
    { s1 with
      txB :=
        .sending (s.inFlightOf src)
          (List.replicate s.settings.gapDelimiters 0xC3 ++
            frameStream (inFlightOctets s1 .b (s.inFlightOf src))) }

/-! ## Failed attempts -/

/-- R75: transmitter B enters HOLDOFF, the hold-off timer loaded; a hold-off of 0 ends it in the same event. -/
def enterHoldoff (s : State) : State :=
  { s with
    holdoffTimer := s.settings.holdOff
    txB := if s.settings.holdOff = 0 then .idle else .holdoff }

/-- R73: a failed attempt of a data frame, before the hold-off. -/
def failFrame (q : QueueIx) (h : Block) (marked : Bool) (s : State) : State :=
  let s1 := raise .grantFail (setRecord h { s.record h with attempts := (s.record h).attempts + 1 } s)
  if s.settings.retryLimit < (s.record h).attempts + 1 then
    raise .retryDrop (bump (.queue q .retryDrops) (releaseFrame h s1))
  else returnToHead q h marked s1

/-- R74: a failed attempt of a line B slot, before the hold-off. -/
def failSlot (i : SlotIx) (s : State) : State :=
  let attempts := (s.agent .b).slots[i].attempts + 1
  if s.settings.retryLimit < attempts then
    slotEnded .b i (bump (.mgmt .responsesLost)
      (raise .grantFail (setAgent .b ((s.agent .b).backToQueued i attempts) s)))
  else raise .grantFail (setAgent .b ((s.agent .b).backToQueued i attempts) s)

/-- R73, R74: a failed attempt of what is in flight; HOLDOFF follows. -/
def failAttempt (f : InFlight) (s : State) : State :=
  match f with
  | .frame q h marked _ => enterHoldoff (failFrame q h marked s)
  | .slot i => enterHoldoff (failSlot i s)

/-! ## The events -/

/-- SELECTION_B (R65 to R69), taken while transmitter B is IDLE and a source is eligible. -/
def execSelectionB (s : State) : Host.Outcome State Fault Refusal :=
  inCore (fun s => if s.txB = .idle then selectB s else s) s

/-- SELECTION_A (R84), taken while transmitter A is IDLE and a source is eligible. -/
def execSelectionA (s : State) : Host.Outcome State Fault Refusal :=
  inCore (fun s => if s.txA = .idle then selectA s else s) s

/-- R69, R71: B_GNT is present: REQUESTING becomes SENDING, and in any other state nothing follows. The grant timer stops
and holds its value: DESIGN CHOICE (log 32). -/
def takeGrant (s : State) : State :=
  match s.txB with
  | .idle => s
  | .requesting f => { s with txB := .sending f (frameStream (inFlightOctets s .b f)) }
  | .sending _ _ => s
  | .holdoff => s

/-- GRANT_PRESENT (R69): B_GNT becomes present. -/
def execGrantPresent (s : State) : Host.Outcome State Fault Refusal :=
  inCore takeGrant { s with grant := true }

/-- R70: the grant timer runs out in REQUESTING, none of its time left (log 32). -/
def timeOutGrant (s : State) : State :=
  match s.txB with
  | .idle => s
  | .requesting f => failAttempt f (bump .grantTimeouts { s with grantTimer := 0 })
  | .sending _ _ => s
  | .holdoff => s

/-- GRANT_TIMEOUT (R70). -/
def execGrantTimeout (s : State) : Host.Outcome State Fault Refusal := inCore timeOutGrant s

/-- R72: B_GNT is absent: in SENDING, a cancel marker and a failed attempt. -/
def loseGrant (s : State) : State :=
  match s.txB with
  | .idle => s
  | .requesting _ => s
  | .sending f stream => failAttempt f (bump .grantLosses (cancelSending .b stream s))
  | .holdoff => s

/-- GRANT_LOSS (R72): B_GNT becomes absent. -/
def execGrantLoss (s : State) : Host.Outcome State Fault Refusal :=
  inCore loseGrant { s with grant := false }

/-- R75: the hold-off timer runs out in HOLDOFF, none of its time left (log 32). -/
def endHoldoff (s : State) : State :=
  match s.txB with
  | .idle => s
  | .requesting _ => s
  | .sending _ _ => s
  | .holdoff => { s with txB := .idle, holdoffTimer := 0 }

/-- HOLDOFF_EXPIRY (R75). The selection that follows is SELECTION_B (log 5). -/
def execHoldoffExpiry (s : State) : Host.Outcome State Fault Refusal := inCore endHoldoff s

/-- R77: the completion of a data frame on line B, before the continuation. -/
def completeFrameB (q : QueueIx) (h : Block) (sponsor : Option Sponsor) (stream : List Octet) (s : State) : State :=
  let s1 := bump (.line .b .framesSent) (bump (.queue q .released) (releaseFrame h s))
  { s1 with charge := sponsor.map (⟨(s.record h).length, ·⟩), sent := s1.sent.set .b stream }

/-- R34, R77, R79: a charge still outstanding is taken before this completion (log 15); then the completion and the
continuation. R35 and R79 let the schedule unit take the charge sent here before or after the continuation's
selection: before it when `chargeFirst`, else at CHARGE or the next completion. -/
def endFrameB (chargeFirst : Bool) (s : State) : State :=
  match s.txB with
  | .idle => s
  | .requesting _ => s
  | .sending (.frame q h _ sponsor) stream =>
    let s1 := completeFrameB q h sponsor stream (takeCharge s)
    continueB (if chargeFirst then takeCharge s1 else s1)
  | .sending (.slot _) _ => s
  | .holdoff => s

/-- COMPLETION_B_FRAME (R77, R79). -/
def execCompletionBFrame (chargeFirst : Bool) (s : State) : Host.Outcome State Fault Refusal :=
  inCore (endFrameB chargeFirst) s

/-- The slot of a line holds a notice (R78, R85). -/
def State.holdsNotice (s : State) (l : Line) (i : SlotIx) : Bool :=
  match (s.agent l).slots[i].content with
  | none => false
  | some f => f.role == .notice

/-- R78, R85: the completion of a slot: frames sent, notices sent for a notice, and the report to the agent. -/
def completeSlot (l : Line) (i : SlotIx) (stream : List Octet) (s : State) : State :=
  let s1 := bump (.line l .framesSent) s
  let s2 := slotEnded l i (if s.holdsNotice l i then bump (.mgmt .noticesSent) s1 else s1)
  { s2 with sent := s2.sent.set l stream }

/-- R78, R79: the completion of a line B slot and the continuation. -/
def endSlotB (s : State) : State :=
  match s.txB with
  | .idle => s
  | .requesting _ => s
  | .sending (.frame _ _ _ _) _ => s
  | .sending (.slot i) stream => continueB (completeSlot .b i stream (takeCharge s))
  | .holdoff => s

/-- COMPLETION_B_SLOT (R78, R79). -/
def execCompletionBSlot (s : State) : Host.Outcome State Fault Refusal := inCore endSlotB s

/-- R85: the completion of a data frame on line A, before the next selection. -/
def completeFrameA (h : Block) (stream : List Octet) (s : State) : State :=
  let s1 := bump (.line .a .framesSent) (bump (.queue queueInb .released) (releaseFrame h s))
  { s1 with sent := s1.sent.set .a stream }

/-- R85: the completion on line A and the selection taken in the same event. -/
def endA (s : State) : State :=
  match s.txA with
  | .idle => s
  | .sending (.frame _ h _ _) stream => selectA (completeFrameA h stream s)
  | .sending (.slot i) stream => selectA (completeSlot .a i stream s)

/-- COMPLETION_A (R85). -/
def execCompletionA (s : State) : Host.Outcome State Fault Refusal := inCore endA s

/-- CHARGE (R34): the schedule unit takes the outstanding charge. -/
def execCharge (s : State) : Host.Outcome State Fault Refusal := inCore takeCharge s

/-! ## Trunk mode (R81, R82) -/

/-- R81: STOP TRUNK at selector B: the mode becomes STOPPED, and a data frame in flight returns to the head of its
queue with its attempt count unchanged; from SENDING, a cancel marker is sent. From REQUESTING the grant timer stops and
holds its value: DESIGN CHOICE (log 32). -/
def stopTrunk (s : State) : State :=
  match s.txB with
  | .requesting (.frame q h marked _) =>
    returnToHead q h marked { s with trunkMode := .stopped, txB := .idle }
  | .sending (.frame q h marked _) stream =>
    returnToHead q h marked (cancelSending .b stream { s with trunkMode := .stopped, txB := .idle })
  | .idle => { s with trunkMode := .stopped }
  | .requesting (.slot _) => { s with trunkMode := .stopped }
  | .sending (.slot _) _ => { s with trunkMode := .stopped }
  | .holdoff => { s with trunkMode := .stopped }

end Sys2Proof.Machine
end

