-- ==== Sys2Proof/Machine/Catalogue.lean ====
section
/-! DEFINITION. The request catalogue (chapter 9): what each request code checks, does and returns at execution
(R168: length, index, values, state, in that order). A request refused changes nothing. -/

namespace Sys2Proof.Machine

/-! ## The agent itself -/

/-- R174: IDENTIFY. -/
def runIdentify : Execution
  | _, _, [], s =>
    carryOut
      (be16 Config.vendorCode ++ be16 Config.partCode ++ [Config.revision, s.station] ++ nat16 512 ++
        [octet 48, octet 24] ++ be16 s.tk.generation) s
  | _, _, _ :: _, s => refuse .badRequest s

/-- R171: READ SETTINGS. -/
def runReadSettings : Execution
  | _, _, [], s => carryOut s.settings.record s
  | _, _, _ :: _, s => refuse .badRequest s

/-- R172: WRITE SETTINGS: all twelve fields at once, REMOTE kept. -/
def runWriteSettings : Execution := fun _ _ ps s =>
  if ps.length = 13 then
    match Settings.read s.settings.remote ps with
    | none => refuse .badValue s
    | some t => carryOut t.record { s with settings := t }
  else refuse .badRequest s

/-- R173: SET REMOTE ACCESS. -/
def runSetRemoteAccess : Execution
  | _, _, [r], s =>
    match readRemote r with
    | none => refuse .badValue s
    | some v => carryOut [v.code] { s with settings := { s.settings with remote := v } }
  | _, _, [], s => refuse .badRequest s
  | _, _, _ :: _ :: _, s => refuse .badRequest s

/-- R162, R188: RESTART: the scope is recorded with the response slot, and the deadline timer loaded with
2 s. -/
def runRestart : Execution
  | l, i, [sc], s =>
    match readScope sc with
    | none => refuse .badValue s
    | some v => carryOut ([v.code] ++ be16 s.tk.generation) { s with restart := .pending v l i 2 }
  | _, _, [], s => refuse .badRequest s
  | _, _, _ :: _ :: _, s => refuse .badRequest s

/-! ## Timekeeping -/

/-- R56, R175: READ TIME. -/
def runReadTime : Execution
  | _, _, [], s => carryOut s.timeRecord s
  | _, _, _ :: _, s => refuse .badRequest s

/-- R54: the load of SET TIME. -/
def loadTime (c : Calendar) (s : State) : State :=
  raise .timeSet { s with tk := { s.tk with cal := c, divider := 0, timeValid := true } }

/-- R53, R54, R175: SET TIME: values, then the crystal, then the load and the snapshot after it. -/
def runSetTime : Execution := fun _ _ ps s =>
  if ps.length = 7 then
    match Calendar.read ps with
    | none => refuse .badValue s
    | some c => if s.tk.crystal = .running then carryOut (loadTime c s).timeRecord (loadTime c s) else refuse .notRunning s
  else refuse .badRequest s

/-! ## Classifier -/

/-- R101: the bank of a number. -/
def Classifier.bank (c : Classifier) (n : Bool) : Vector RuleEntry 48 := if n then c.bank1 else c.bank0

/-- R101: a bank replaced. -/
def Classifier.setBank (c : Classifier) (n : Bool) (v : Vector RuleEntry 48) : Classifier :=
  if n then { c with bank1 := v } else { c with bank0 := v }

/-- R101: the number of the standby bank. -/
def Classifier.standby (c : Classifier) : Bool := !c.active

/-- R104: the number of valid entries of a bank. -/
def validEntries (v : Vector RuleEntry 48) : Nat := v.toList.countP (·.valid)

/-- R104, R176: READ RULE. -/
def runReadRule : Execution
  | _, _, [b, e], s =>
    match readYesNo b, readEntryIx e with
    | some n, some i =>
      carryOut ([yesNo (n == s.classifier.active)] ++ (s.classifier.bank n)[i].octets) s
    | _, _ => refuse .badIndex s
  | _, _, [], s => refuse .badRequest s
  | _, _, [_], s => refuse .badRequest s
  | _, _, _ :: _ :: _ :: _, s => refuse .badRequest s

/-- R104, R176: READ BANK STATE. -/
def runReadBankState : Execution
  | _, _, [], s =>
    carryOut
      ([yesNo s.classifier.active] ++ be16 s.classifier.activations ++
        [octet (validEntries s.classifier.bank0), octet (validEntries s.classifier.bank1)]) s
  | _, _, _ :: _, s => refuse .badRequest s

/-- R102: an entry stored in the standby bank. -/
def Classifier.writeEntry (c : Classifier) (i : EntryIx) (e : RuleEntry) : Classifier :=
  c.setBank c.standby ((c.bank c.standby).set i.val e i.isLt)

/-- R102, R177: WRITE RULE: the index, then the entry. -/
def runWriteRule : Execution
  | _, _, ix :: es, s =>
    if es.length = 17 then
      match readEntryIx ix with
      | none => refuse .badIndex s
      | some i =>
        match RuleEntry.read es with
        | none => refuse .badValue s
        | some e =>
          carryOut [yesNo s.classifier.standby] { s with classifier := s.classifier.writeEntry i e }
    else refuse .badRequest s
  | _, _, [], s => refuse .badRequest s

/-- R103, R178: CLEAR STANDBY. -/
def runClearStandby : Execution
  | _, _, [], s =>
    carryOut [yesNo s.classifier.standby]
      { s with classifier := s.classifier.setBank s.classifier.standby clearedBank }
  | _, _, _ :: _, s => refuse .badRequest s

/-- R105, steps 1, 2 and 5, and R106: the banks swap, the activation count increments, and with the copy flag the new
standby bank becomes a replica of the new active bank. -/
def Classifier.activate (c : Classifier) (copy : Bool) : Classifier :=
  let swapped := { c with active := !c.active, activations := c.activations + 1 }
  if copy then swapped.setBank swapped.standby (swapped.bank swapped.active) else swapped

/-- R105: ACTIVATE at the classifier, with the RULE counters set to 0 and BANK_ACTIVATED raised. -/
def activate (copy : Bool) (s : State) : State :=
  raise .bankActivated
    { s with
      classifier := s.classifier.activate copy
      counters := zeroRange (groupBase 3) (groupSize 3) s.counters }

/-- R105, R178: ACTIVATE. -/
def runActivate : Execution
  | _, _, [c], s =>
    match readYesNo c with
    | none => refuse .badValue s
    | some copy =>
      carryOut ([yesNo (activate copy s).classifier.active] ++ be16 (activate copy s).classifier.activations)
        (activate copy s)
  | _, _, [], s => refuse .badRequest s
  | _, _, _ :: _ :: _, s => refuse .badRequest s

/-! ## Queue manager -/

/-- R20, R179: READ QUEUE. -/
def runReadQueue : Execution
  | _, _, [x], s =>
    match readQueueIx x with
    | none => refuse .badIndex s
    | some q => carryOut (s.queueRecord q) s
  | _, _, [], s => refuse .badRequest s
  | _, _, _ :: _ :: _, s => refuse .badRequest s

/-- R17: the settings of a queue replaced; EXP and INB have no fallback. -/
def writeQueue (q : QueueIx) (limit maxAge : Nat) (fallback : Fallback) (s : State) : State :=
  setQueue q
    { s.queue q with
      limit := limit
      maxAge := maxAge
      fallback := if isScheduled q then fallback else (s.queue q).fallback } s

/-- R180: the fallback of a WRITE QUEUE: checked for S1 to S6, ignored for EXP and INB. -/
def readFallbackFor (q : QueueIx) (o : Octet) : Option Fallback :=
  if isScheduled q then readFallback o else some .hold

/-- R17, R180: WRITE QUEUE. -/
def runWriteQueue : Execution := fun _ _ ps s =>
  match ps with
  | [x, li, a1, a2, fb] =>
    match readQueueIx x with
    | none => refuse .badIndex s
    | some q =>
      match readFallbackFor q fb with
      | none => refuse .badValue s
      | some f =>
        if li = 0 then refuse .badValue s
        else
          carryOut ((writeQueue q li.toNat (num16 a1 a2) f s).queueRecord q) (writeQueue q li.toNat (num16 a1 a2) f s)
  | _ => refuse .badRequest s

/-- R181: a queue command: the index check, the command, and the figures it leaves. -/
def runQueueCommand (f : QueueIx → State → State) : Execution
  | _, _, [x], s =>
    match readQueueIx x with
    | none => refuse .badIndex s
    | some q => carryOut ((f q s).queueFigures q) (f q s)
  | _, _, [], s => refuse .badRequest s
  | _, _, _ :: _ :: _, s => refuse .badRequest s

/-- R13: the FREEZE command. -/
def freezeQueue (q : QueueIx) (s : State) : State := setQueue q { s.queue q with frozen := true } s

/-- R14: the RESUME command. -/
def resumeQueue (q : QueueIx) (s : State) : State := setQueue q { s.queue q with frozen := false } s

/-- R10: the RELEASE command: for S1 to S6 the mark becomes the frame count; EXP and INB are not changed. -/
def releaseQueue (q : QueueIx) (s : State) : State :=
  setQueue q { s.queue q with mark := if isScheduled q then (s.queue q).count else (s.queue q).mark } s

/-- R15, R120: frames released head to tail, each chain appended whole. -/
def releaseFrames (hs : List Block) (s : State) : State := hs.foldl (fun s h => releaseFrame h s) s

/-- R15: the FLUSH command. -/
def flushQueue (q : QueueIx) (s : State) : State :=
  bumpBy (.queue q .flushed) (s.queue q).count
    (setQueue q { s.queue q with frames := [], mark := 0 } (releaseFrames (s.queue q).frames s))

/-- R13, R181: FREEZE QUEUE. -/
def runFreezeQueue : Execution := runQueueCommand freezeQueue

/-- R14, R181: RESUME QUEUE. -/
def runResumeQueue : Execution := runQueueCommand resumeQueue

/-- R10, R181: RELEASE QUEUE. -/
def runReleaseQueue : Execution := runQueueCommand releaseQueue

/-- R15, R181: FLUSH QUEUE, which also reports the frames discarded. -/
def runFlushQueue : Execution
  | _, _, [x], s =>
    match readQueueIx x with
    | none => refuse .badIndex s
    | some q => carryOut (nat16 (s.queue q).count ++ (flushQueue q s).queueFigures q) (flushQueue q s)
  | _, _, [], s => refuse .badRequest s
  | _, _, _ :: _ :: _, s => refuse .badRequest s

/-! ## Schedule unit -/

/-- R44, R182: READ WINDOW. -/
def runReadWindow : Execution
  | _, _, [x], s =>
    match readWindowIx x with
    | none => refuse .badIndex s
    | some i => carryOut s.windows[i].entry.octets s
  | _, _, [], s => refuse .badRequest s
  | _, _, _ :: _ :: _, s => refuse .badRequest s

/-- R44, R182: READ WINDOW STATE: the 24 state records in index order. -/
def runReadWindowState : Execution
  | _, _, [], s => carryOut (s.windows.toList.flatMap fun w => w.state.octets) s
  | _, _, _ :: _, s => refuse .badRequest s

/-- R39, R183: WRITE WINDOW: the index, then the entry. -/
def runWriteWindow : Execution
  | _, _, ix :: es, s =>
    if es.length = 11 then
      match readWindowIx ix with
      | none => refuse .badIndex s
      | some i =>
        match WindowEntry.read es with
        | none => refuse .badValue s
        | some e => carryOut (writeWindow i e s).windows[i].state.octets (writeWindow i e s)
    else refuse .badRequest s
  | _, _, [], s => refuse .badRequest s

/-! ## Selector B -/

/-- R184: the trunk mode and the state of transmitter B. -/
def State.trunkOctets (s : State) : List Octet := [s.trunkMode.code, s.txB.code]

/-- R81, R184: STOP TRUNK. -/
def runStopTrunk : Execution
  | _, _, [], s => carryOut (stopTrunk s).trunkOctets (stopTrunk s)
  | _, _, _ :: _, s => refuse .badRequest s

/-- R82, R184: RESTART TRUNK. The selection that follows is SELECTION_B (log 5). -/
def runRestartTrunk : Execution
  | _, _, [], s => carryOut { s with trunkMode := .running }.trunkOctets { s with trunkMode := .running }
  | _, _, _ :: _, s => refuse .badRequest s

/-! ## Event unit and counter bank -/

/-- R185, R203: READ EVENTS. -/
def runReadEvents : Execution
  | _, _, [], s =>
    carryOut
      (s.events.stateOctets ++ be16 s.events.mask ++ [s.events.notice.state.code, s.events.notice.number]) s
  | _, _, _ :: _, s => refuse .badRequest s

/-- R200: ACK EVENTS at the event unit. -/
def ackEvents (set : Word16) (s : State) : State :=
  { s with events := s.events.acknowledge s.settings.noticeRepeat set }

/-- R186, R200: ACK EVENTS. -/
def runAckEvents : Execution
  | _, _, [e1, e2], s =>
    carryOut ((ackEvents (word16 e1 e2) s).events.stateOctets ++ [(ackEvents (word16 e1 e2) s).events.notice.state.code])
      (ackEvents (word16 e1 e2) s)
  | _, _, [], s => refuse .badRequest s
  | _, _, [_], s => refuse .badRequest s
  | _, _, _ :: _ :: _ :: _, s => refuse .badRequest s

/-- R202: WRITE EVENT MASK at the event unit. -/
def writeEventMask (mask : Word16) (s : State) : State :=
  { s with events := s.events.writeMask s.settings.noticeRepeat mask }

/-- R186, R202: WRITE EVENT MASK. -/
def runWriteEventMask : Execution
  | _, _, [m1, m2], s =>
    carryOut (be16 (word16 m1 m2) ++ [(writeEventMask (word16 m1 m2) s).events.notice.state.code])
      (writeEventMask (word16 m1 m2) s)
  | _, _, [], s => refuse .badRequest s
  | _, _, [_], s => refuse .badRequest s
  | _, _, _ :: _ :: _ :: _, s => refuse .badRequest s

/-- R205: the counters named, cleared if asked. -/
def clearCounters (clear : Bool) (lo n : Nat) (s : State) : State :=
  { s with counters := if clear then zeroRange lo n s.counters else s.counters }

/-- R187, R205: READ COUNTERS: group, first index and their sum, then count and clear flag. -/
def runReadCounters : Execution := fun _ _ ps s =>
  match ps with
  | [g, first, count, flag] =>
    match readGroup g with
    | none => refuse .badIndex s
    | some grp =>
      if first.toNat < groupSize grp ∧ first.toNat + count.toNat ≤ groupSize grp then
        match readYesNo flag with
        | none => refuse .badValue s
        | some clear =>
          if 1 ≤ count.toNat ∧ count.toNat ≤ 48 then
            carryOut ([g, first, count] ++ s.counterOctets (groupBase grp + first.toNat) count.toNat)
              (clearCounters clear (groupBase grp + first.toNat) count.toNat s)
          else refuse .badValue s
      else refuse .badIndex s
  | _ => refuse .badRequest s

/-! ## The code of a request -/

/-- R158, R168: a code not in the catalogue. -/
def runUnknown : Execution := fun _ _ _ s => refuse .badRequest s

/-- R209: the execution of a request code. -/
def runOf (code : Octet) : Execution :=
  match code.toNat with
  | 0x01 => runIdentify
  | 0x02 => runReadSettings
  | 0x03 => runWriteSettings
  | 0x04 => runSetRemoteAccess
  | 0x10 => runReadTime
  | 0x11 => runSetTime
  | 0x20 => runReadRule
  | 0x21 => runReadBankState
  | 0x22 => runWriteRule
  | 0x23 => runClearStandby
  | 0x24 => runActivate
  | 0x30 => runReadQueue
  | 0x31 => runWriteQueue
  | 0x32 => runFreezeQueue
  | 0x33 => runResumeQueue
  | 0x34 => runFlushQueue
  | 0x35 => runReleaseQueue
  | 0x40 => runReadWindow
  | 0x41 => runReadWindowState
  | 0x42 => runWriteWindow
  | 0x50 => runStopTrunk
  | 0x51 => runRestartTrunk
  | 0x60 => runReadEvents
  | 0x61 => runAckEvents
  | 0x62 => runWriteEventMask
  | 0x63 => runReadCounters
  | 0x70 => runRestart
  | _ => runUnknown

/-- R148, R153: the agent takes a request from its frame: step 0, the form, and then the request event of its code. -/
def takePayload (l : Line) (src : Octet) (payload : List Octet) (s : State) : State :=
  match payload with
  | [] => bump (.mgmt .malformed) s
  | [_] => bump (.mgmt .malformed) s
  | seq :: code :: ps => takeRequest (runOf code) { line := l, src := src, seq := seq, code := code, params := ps } s

end Sys2Proof.Machine
end

