-- ==== Sys2Proof/Machine/Requests.lean ====
section
/-! DEFINITION. The request commands: the request event (R153) of each request code of the catalogue, with the
request as recognition hands it to the agent (R148). One meaning per row. -/

namespace Sys2Proof.Machine

/-- IDENTIFY (R174): request code 0x01. -/
def execIdentify (l : Line) (src seq : Octet) (ps : List Octet) (s : State) : Host.Outcome State Fault Refusal :=
  requestCommand runIdentify { line := l, src := src, seq := seq, code := 0x01, params := ps } s

/-- READ_SETTINGS (R171): request code 0x02. -/
def execReadSettings (l : Line) (src seq : Octet) (ps : List Octet) (s : State) : Host.Outcome State Fault Refusal :=
  requestCommand runReadSettings { line := l, src := src, seq := seq, code := 0x02, params := ps } s

/-- WRITE_SETTINGS (R172): request code 0x03. -/
def execWriteSettings (l : Line) (src seq : Octet) (ps : List Octet) (s : State) : Host.Outcome State Fault Refusal :=
  requestCommand runWriteSettings { line := l, src := src, seq := seq, code := 0x03, params := ps } s

/-- SET_REMOTE_ACCESS (R173): request code 0x04. -/
def execSetRemoteAccess (l : Line) (src seq : Octet) (ps : List Octet) (s : State) : Host.Outcome State Fault Refusal :=
  requestCommand runSetRemoteAccess { line := l, src := src, seq := seq, code := 0x04, params := ps } s

/-- READ_TIME (R56, R175): request code 0x10. -/
def execReadTime (l : Line) (src seq : Octet) (ps : List Octet) (s : State) : Host.Outcome State Fault Refusal :=
  requestCommand runReadTime { line := l, src := src, seq := seq, code := 0x10, params := ps } s

/-- SET_TIME (R53, R54, R175): request code 0x11. -/
def execSetTime (l : Line) (src seq : Octet) (ps : List Octet) (s : State) : Host.Outcome State Fault Refusal :=
  requestCommand runSetTime { line := l, src := src, seq := seq, code := 0x11, params := ps } s

/-- READ_RULE (R104, R176): request code 0x20. -/
def execReadRule (l : Line) (src seq : Octet) (ps : List Octet) (s : State) : Host.Outcome State Fault Refusal :=
  requestCommand runReadRule { line := l, src := src, seq := seq, code := 0x20, params := ps } s

/-- READ_BANK_STATE (R104, R176): request code 0x21. -/
def execReadBankState (l : Line) (src seq : Octet) (ps : List Octet) (s : State) : Host.Outcome State Fault Refusal :=
  requestCommand runReadBankState { line := l, src := src, seq := seq, code := 0x21, params := ps } s

/-- WRITE_RULE (R102, R177): request code 0x22. -/
def execWriteRule (l : Line) (src seq : Octet) (ps : List Octet) (s : State) : Host.Outcome State Fault Refusal :=
  requestCommand runWriteRule { line := l, src := src, seq := seq, code := 0x22, params := ps } s

/-- CLEAR_STANDBY (R103, R178): request code 0x23. -/
def execClearStandby (l : Line) (src seq : Octet) (ps : List Octet) (s : State) : Host.Outcome State Fault Refusal :=
  requestCommand runClearStandby { line := l, src := src, seq := seq, code := 0x23, params := ps } s

/-- ACTIVATE (R105, R106, R178): request code 0x24. -/
def execActivate (l : Line) (src seq : Octet) (ps : List Octet) (s : State) : Host.Outcome State Fault Refusal :=
  requestCommand runActivate { line := l, src := src, seq := seq, code := 0x24, params := ps } s

/-- READ_QUEUE (R20, R179): request code 0x30. -/
def execReadQueue (l : Line) (src seq : Octet) (ps : List Octet) (s : State) : Host.Outcome State Fault Refusal :=
  requestCommand runReadQueue { line := l, src := src, seq := seq, code := 0x30, params := ps } s

/-- WRITE_QUEUE (R17, R180): request code 0x31. -/
def execWriteQueue (l : Line) (src seq : Octet) (ps : List Octet) (s : State) : Host.Outcome State Fault Refusal :=
  requestCommand runWriteQueue { line := l, src := src, seq := seq, code := 0x31, params := ps } s

/-- FREEZE_QUEUE (R13, R181): request code 0x32. -/
def execFreezeQueue (l : Line) (src seq : Octet) (ps : List Octet) (s : State) : Host.Outcome State Fault Refusal :=
  requestCommand runFreezeQueue { line := l, src := src, seq := seq, code := 0x32, params := ps } s

/-- RESUME_QUEUE (R14, R181): request code 0x33. -/
def execResumeQueue (l : Line) (src seq : Octet) (ps : List Octet) (s : State) : Host.Outcome State Fault Refusal :=
  requestCommand runResumeQueue { line := l, src := src, seq := seq, code := 0x33, params := ps } s

/-- FLUSH_QUEUE (R15, R181): request code 0x34. -/
def execFlushQueue (l : Line) (src seq : Octet) (ps : List Octet) (s : State) : Host.Outcome State Fault Refusal :=
  requestCommand runFlushQueue { line := l, src := src, seq := seq, code := 0x34, params := ps } s

/-- RELEASE_QUEUE (R10, R181): request code 0x35. -/
def execReleaseQueue (l : Line) (src seq : Octet) (ps : List Octet) (s : State) : Host.Outcome State Fault Refusal :=
  requestCommand runReleaseQueue { line := l, src := src, seq := seq, code := 0x35, params := ps } s

/-- READ_WINDOW (R44, R182): request code 0x40. -/
def execReadWindow (l : Line) (src seq : Octet) (ps : List Octet) (s : State) : Host.Outcome State Fault Refusal :=
  requestCommand runReadWindow { line := l, src := src, seq := seq, code := 0x40, params := ps } s

/-- READ_WINDOW_STATE (R44, R182): request code 0x41. -/
def execReadWindowState (l : Line) (src seq : Octet) (ps : List Octet) (s : State) : Host.Outcome State Fault Refusal :=
  requestCommand runReadWindowState { line := l, src := src, seq := seq, code := 0x41, params := ps } s

/-- WRITE_WINDOW (R39, R40, R183): request code 0x42. -/
def execWriteWindow (l : Line) (src seq : Octet) (ps : List Octet) (s : State) : Host.Outcome State Fault Refusal :=
  requestCommand runWriteWindow { line := l, src := src, seq := seq, code := 0x42, params := ps } s

/-- STOP_TRUNK (R81, R184): request code 0x50. -/
def execStopTrunk (l : Line) (src seq : Octet) (ps : List Octet) (s : State) : Host.Outcome State Fault Refusal :=
  requestCommand runStopTrunk { line := l, src := src, seq := seq, code := 0x50, params := ps } s

/-- RESTART_TRUNK (R82, R184): request code 0x51. -/
def execRestartTrunk (l : Line) (src seq : Octet) (ps : List Octet) (s : State) : Host.Outcome State Fault Refusal :=
  requestCommand runRestartTrunk { line := l, src := src, seq := seq, code := 0x51, params := ps } s

/-- READ_EVENTS (R185, R203): request code 0x60. -/
def execReadEvents (l : Line) (src seq : Octet) (ps : List Octet) (s : State) : Host.Outcome State Fault Refusal :=
  requestCommand runReadEvents { line := l, src := src, seq := seq, code := 0x60, params := ps } s

/-- ACK_EVENTS (R186, R200): request code 0x61. -/
def execAckEvents (l : Line) (src seq : Octet) (ps : List Octet) (s : State) : Host.Outcome State Fault Refusal :=
  requestCommand runAckEvents { line := l, src := src, seq := seq, code := 0x61, params := ps } s

/-- WRITE_EVENT_MASK (R186, R202): request code 0x62. -/
def execWriteEventMask (l : Line) (src seq : Octet) (ps : List Octet) (s : State) : Host.Outcome State Fault Refusal :=
  requestCommand runWriteEventMask { line := l, src := src, seq := seq, code := 0x62, params := ps } s

/-- READ_COUNTERS (R187, R205): request code 0x63. -/
def execReadCounters (l : Line) (src seq : Octet) (ps : List Octet) (s : State) : Host.Outcome State Fault Refusal :=
  requestCommand runReadCounters { line := l, src := src, seq := seq, code := 0x63, params := ps } s

/-- RESTART (R162, R188): request code 0x70. -/
def execRestart (l : Line) (src seq : Octet) (ps : List Octet) (s : State) : Host.Outcome State Fault Refusal :=
  requestCommand runRestart { line := l, src := src, seq := seq, code := 0x70, params := ps } s

/-- UNKNOWN_REQUEST_CODE (R158): a request whose code is not in the catalogue. A code of the catalogue, which no
well-formed command of this row has, is taken as the request it is (log 24). -/
def execUnknownRequestCode (l : Line) (src seq code : Octet) (ps : List Octet) (s : State) :
    Host.Outcome State Fault Refusal :=
  requestCommand (runOf code) { line := l, src := src, seq := seq, code := code, params := ps } s

end Sys2Proof.Machine
end

