-- ==== Sys2Proof/Machine/Classification.lean ====
section
/-! DEFINITION. The frame-end event (chapter 5): management recognition, the search of the active bank, the default
actions, hit counts and delivery. A frame is read as its list of header and payload octets. -/

namespace Sys2Proof.Machine

/-- The octet of a frame at a place counted from 0: 0 destination, 1 source, 2 kind, 3 onward payload (R208). -/
def frameOctet (os : List Octet) (k : Nat) : Octet := os.getD k 0

/-- R89: recognition takes the frame: the part is managed, the frame is addressed to its station, and its kind is that
of a request. -/
def State.recognises (s : State) (os : List Octet) : Bool :=
  s.managed && frameOctet os 0 == s.station && frameOctet os 2 == 0xE1

/-- R92: a value and mask test of an octet. -/
def OctetMatch.passes (m : OctetMatch) (o : Octet) : Bool := o &&& m.mask == m.value &&& m.mask

/-- R93: the payload probe; an absent probe is passed by every frame. -/
def probePasses (p : Option Probe) (os : List Octet) : Bool :=
  match p with
  | none => true
  | some p =>
    match os[3 + p.offset]? with
    | none => false
    | some o => o &&& p.mask == p.value &&& p.mask

/-- R94: the length range; an absent range is passed by every frame. -/
def lengthPasses (r : Option LengthRange) (length : Nat) : Bool :=
  match r with
  | none => true
  | some r => r.minimum ≤ length && length ≤ r.maximum

/-- R95: the direction of an entry agrees with that of frames from the line: outbound from line A, inbound from
line B (R88). -/
def Direction.agrees : Direction → Line → Bool
  | .outbound, .a => true
  | .outbound, .b => false
  | .inbound, .a => false
  | .inbound, .b => true
  | .both, _ => true

/-- R95: the entry is examined for frames of the line. -/
def RuleEntry.examined (e : RuleEntry) (l : Line) : Bool := e.valid && e.direction.agrees l

/-- R95: the frame passes all five tests of the entry. -/
def RuleEntry.passes (e : RuleEntry) (os : List Octet) : Bool :=
  e.destination.passes (frameOctet os 0) && e.source.passes (frameOctet os 1) && e.kind.passes (frameOctet os 2) &&
    probePasses e.probe os && lengthPasses e.lengths os.length

/-- R96: the search over the entries left, in index order. -/
def searchFrom (bank : Vector RuleEntry 48) (l : Line) (os : List Octet) : List EntryIx → Option EntryIx
  | [] => none
  | i :: rest =>
    if bank[i].examined l then
      if bank[i].passes os then some i
      else if bank[i].last then none
      else searchFrom bank l os rest
    else searchFrom bank l os rest

/-- R96: the deciding entry of the active bank, if any. -/
def Classifier.decide (c : Classifier) (l : Line) (os : List Octet) : Option EntryIx :=
  searchFrom (c.bank c.active) l os (List.finRange 48)

/-- R98: what becomes of a frame: it is forwarded to a queue or discarded. -/
inductive Verdict where
  | forward (q : QueueIx)
  | discard
  deriving DecidableEq, Repr

/-- R97, R98: the outcome by the default action of the direction. -/
def defaultVerdict (t : Settings) : Line → Verdict
  | .a =>
    match t.outboundDefault with
    | .forward q => .forward (outQueue q)
    | .discard => .discard
  | .b =>
    match t.inboundDefault with
    | .forward => .forward queueInb
    | .discard => .discard

/-- R98: the outcome by an entry. -/
def RuleEntry.verdict (e : RuleEntry) (l : Line) : Verdict :=
  match e.action, l with
  | .forward, .a => .forward (outQueue e.queue)
  | .forward, .b => .forward queueInb
  | .discard, _ => .discard

/-- R97, R98: the outcome of a classification. -/
def State.verdict (s : State) (l : Line) (decided : Option EntryIx) : Verdict :=
  match decided with
  | none => defaultVerdict s.settings l
  | some i => ((s.classifier.bank s.classifier.active)[i]).verdict l

/-- R100: the counter a classification increments. -/
def hitCounter (l : Line) (decided : Option EntryIx) : Counter :=
  match decided, l with
  | some i, _ => .ruleHit i
  | none, .a => .outboundDefaultHits
  | none, .b => .inboundDefaultHits

/-- R99: the outcome delivered: a join, or the release of the frame's blocks. -/
def deliver (h : Block) (v : Verdict) (s : State) : State :=
  match v with
  | .forward q => join q h s
  | .discard => releaseFrame h s

/-- R96 to R100: classification of a frame and delivery of its outcome. -/
def classify (l : Line) (h : Block) (os : List Octet) (s : State) : State :=
  let decided := s.classifier.decide l os
  deliver h (s.verdict l decided)
    (bump (hitCounter l decided) (setRecord h { s.record h with matched := decided } s))

/-- R88, R89: the frame-end event. A recognised request is handed to the agent, which takes it in this event (log 3),
its blocks released; any other frame is classified. -/
def frameEnd (l : Line) (h : Block) (s : State) : State :=
  let os := s.store.frameOctets h
  if s.recognises os then takePayload l (frameOctet os 1) (os.drop 3) (releaseFrame h s)
  else classify l h os s

end Sys2Proof.Machine
end

