-- ==== Sys2Proof/Machine/Reception.lean ====
section
/-! DEFINITION. The receivers and intakes (chapter 7), with the meanings of the receiver events. In SEEKING and DISCARDING
a command delivers bits, and the receiver hunts through them (R128). In BETWEEN and IN_FRAME a command delivers the
eight bits of one aligned octet, and the receiver takes what R129 makes of it. -/

namespace Sys2Proof.Machine

/-- The receiver of a line. -/
def State.receiver (s : State) (l : Line) : Receiver := s.rx.get l

/-- The receiver of a line replaced. -/
def setReceiver (l : Line) (r : Receiver) (s : State) : State := { s with rx := s.rx.set l r }

/-! ## Bits (R128) -/

/-- R128: one more bit taken into the most recent bits, the oldest of them the most significant. -/
def pushBit (recent : Word16) (b : Bool) : Word16 := recent <<< 1 ||| (if b then 1 else 0)

/-- R128: the eight most recent bits, as an octet. -/
def latestBits (recent : Word16) : Octet := recent.extractLsb' 0 8

/-- R129: the eight bits received immediately before the eight most recent. -/
def earlierBits (recent : Word16) : Octet := recent.extractLsb' 8 8

/-- R128: the eight bits of an octet taken one at a time, most significant bit first. -/
def pushOctet (recent : Word16) (o : Octet) : Word16 :=
  [7, 6, 5, 4, 3, 2, 1, 0].foldl (fun r i => pushBit r (o.getLsbD i)) recent

/-- R128: the hunt: bits taken one at a time, up to the one after which the eight most recent form a delimiter. It answers
the bits most recent where it ends, and whether it found a delimiter. -/
def hunt (recent : Word16) : List Bool → Word16 × Bool
  | [] => (recent, false)
  | b :: bs =>
    if latestBits (pushBit recent b) = 0xC3 then (pushBit recent b, true) else hunt (pushBit recent b) bs

/-- R128: a receiver that hunts takes bits, and `found` where it finds a delimiter. Bits that complete no delimiter are
passed over, and bits after the delimiter are not this event's (log 18). -/
def hunting (l : Line) (bits : List Bool) (found : State → State) (s : State) : State :=
  let h := hunt (s.receiver l).recent bits
  let s1 := setReceiver l { s.receiver l with recent := h.1 } s
  if h.2 then found s1 else s1

/-- R128: a receiver that does not hunt assembles one octet from eight bits and takes it. -/
def alignedOctet (l : Line) (o : Octet) (take : Octet → State → State) (s : State) : State :=
  let recent := pushOctet (s.receiver l).recent o
  take (latestBits recent) (setReceiver l { s.receiver l with recent := recent } s)

/-! ## Storing an octet (R114) -/

/-- R114: an octet stored in the last block of a frame's chain, and the frame length incremented. -/
def Store.put (st : Store) (h : Block) (o : Octet) : Store :=
  { st with
    mem := memWrite st.mem (blockAddr (st.records[h].chain.getLastD h) (st.records[h].length % 64)) o
    records := st.records.set h.val { st.records[h] with length := st.records[h].length + 1 } h.isLt }

/-- R114: an octet stored for a frame. -/
def putOctet (h : Block) (o : Octet) (s : State) : State := { s with store := s.store.put h o }

/-- R114: the record written in a frame's first claim: line of arrival, the single block, length 0. -/
def openRecord (l : Line) (b : Block) (s : State) : State :=
  setRecord b { s.record b with line := l, chain := [b], length := 0 } s

/-- R114: the block of a later claim appended to the chain. -/
def extendChain (h b : Block) (s : State) : State :=
  setRecord h { s.record h with chain := (s.record h).chain ++ [b] } s

/-- R114: the last block of the chain is full, so that the next octet needs a claim. -/
def FrameRecord.full (r : FrameRecord) : Bool := r.length % 64 == 0

/-- R114, R115: intake hands an octet to the store: the frame's handle and the state after, or none where a claim
fails. -/
def storeOctet (l : Line) (o : Octet) (s : State) : Option (Block × State) :=
  match (s.receiver l).handle with
  | none =>
    match claim l s with
    | none => none
    | some (b, s1) => some (b, putOctet b o (openRecord l b s1))
  | some h =>
    if (s.record h).full then
      match claim l s with
      | none => none
      | some (b, s1) => some (h, putOctet h o (extendChain h b s1))
    else some (h, putOctet h o s)

/-! ## Data octets (R133 to R136) -/

/-- The frame length of the frame being received (R135): 0 while nothing is claimed. -/
def State.receivedLength (s : State) (l : Line) : Nat :=
  match (s.receiver l).handle with
  | none => 0
  | some h => (s.record h).length

/-- R135, R136: the frame in progress is rejected: its chain is released, and the receiver enters DISCARDING. The rules
give no value for the decoded count, the running check and the octet alignment there; they stand as they were (log 26). -/
def reject (l : Line) (why : RejectReason) (s : State) : State :=
  setReceiver l
    { s.receiver l with
      state := .discarding
      escapePending := false
      held := []
      reject := some why
      handle := none }
    (releaseReceiving (s.receiver l).handle s)

/-- R133, steps 3 to 5: the oldest held octet goes to the store, and the new octet is held. -/
def releaseHeld (l : Line) (old new : Octet) (s : State) : State :=
  if s.settings.maxFrameLength < s.receivedLength l + 1 then reject l .longFrame s
  else
    match storeOctet l old s with
    | none => reject l .storeDrop s
    | some (h, s1) =>
      setReceiver l
        { s.receiver l with
          check := checkOctet (s.receiver l).check old
          held := (s.receiver l).held.tail ++ [new]
          handle := some h } s1

/-- R133: a data octet taken in IN_FRAME. -/
def takeData (l : Line) (o : Octet) (s : State) : State :=
  let s1 :=
    setReceiver l { s.receiver l with escapePending := false, decoded := (s.receiver l).decoded + 1 } s
  match (s.receiver l).held with
  | [] => setReceiver l { s1.receiver l with held := [o] } s1
  | [x] => setReceiver l { s1.receiver l with held := [x, o] } s1
  | old :: _ :: _ => releaseHeld l old o s1

/-! ## The end of a frame (R137 to R139) -/

/-- R137, R139, R140: the receiver in BETWEEN after a delimiter. -/
def Receiver.atDelimiter (r : Receiver) : Receiver :=
  { r with state := .between, aligned := true, escapePending := false, decoded := 0, held := [], reject := none,
           handle := none }

/-- The check value the two held octets carry, the older the high octet (R134). -/
def heldCheck (held : List Octet) : Word16 := word16 (held.getD 0 0) (held.getD 1 0)

/-- R117: the rest of a frame's record, written at completion. -/
def completeRecord (h : Block) (length : Nat) (s : State) : State :=
  setRecord h { s.record h with length := length, stamp := s.uptime, matched := none, attempts := 0 } s

/-- R138: the completion of a good frame and its frame-end event. -/
def completeFrame (l : Line) (h : Block) (length : Nat) (s : State) : State :=
  frameEnd l h (bump (.line l .goodFrames) (completeRecord h length s))

/-- R137: a delimiter taken in IN_FRAME closes the frame: a runt, a check error or a complete frame. -/
def closeFrame (l : Line) (s : State) : State :=
  let r := s.receiver l
  let s1 := setReceiver l r.atDelimiter s
  if r.decoded ≤ 4 then bump (.line l .runts) (releaseReceiving r.handle s1)
  else if r.check = heldCheck r.held then
    match r.handle with
    | none => s1
    | some h => completeFrame l h (r.decoded - 2) s1
  else raise .checkError (bump (.line l .checkErrors) (releaseReceiving r.handle s1))

/-- R139: a cancel marker taken in IN_FRAME abandons the frame. -/
def abandonFrame (l : Line) (s : State) : State :=
  let r := s.receiver l
  raise .frameAbort
    (bump (.line l .aborts) (releaseReceiving r.handle (setReceiver l r.atDelimiter s)))

/-! ## One aligned octet in IN_FRAME (R129) -/

/-- R129: the receiver in IN_FRAME takes an aligned octet: after an escape, 0xC3 completes a cancel marker and any
other octet is data with its bit of weight 0x10 inverted; otherwise 0xC3 closes the frame, 0xC9 is an escape, and any
other octet is data. -/
def takeInFrame (l : Line) (o : Octet) (s : State) : State :=
  if (s.receiver l).escapePending then
    if o = 0xC3 then abandonFrame l s else takeData l (o ^^^ 0x10) s
  else if o = 0xC3 then closeFrame l s
  else if o = 0xC9 then setReceiver l { s.receiver l with escapePending := true } s
  else takeData l o s

/-- An event of a line's receiver, taken in one of its states only. -/
def inState (st : RxState) (l : Line) (f : State → State) (s : State) : State :=
  if (s.receiver l).state = st then f s else s

/-! ## The events -/

/-- R131: the delimiter that the hunt finds in SEEKING. -/
def leaveSeeking (l : Line) (s : State) : State :=
  setReceiver l
    { s.receiver l with state := .between, aligned := true, escapePending := false, decoded := 0, held := [] } s

/-- HUNT_DELIMITER (R131): in SEEKING the hunt takes bits and finds a delimiter. -/
def execHuntDelimiter (hunted : LineBits) (s : State) : Host.Outcome State Fault Refusal :=
  inCore (inState .seeking hunted.line (hunting hunted.line hunted.bits (leaveSeeking hunted.line))) s

/-- R132: a frame begins: IN_FRAME with nothing decoded and the running check preset. -/
def beginFrame (l : Line) (escape : Bool) (s : State) : State :=
  setReceiver l
    { s.receiver l with
      state := .inFrame
      escapePending := escape
      decoded := 0
      held := []
      check := 0xFFFF } s

/-- R132: an aligned octet taken in BETWEEN: idle fill, or the first of a frame. -/
def takeBetween (l : Line) (o : Octet) (s : State) : State :=
  if o = 0xC3 then s
  else if o = 0xC9 then beginFrame l true s
  else takeData l o (beginFrame l false s)

/-- BETWEEN_OCTET (R132): an aligned octet taken in BETWEEN. -/
def execBetweenOctet (l : Line) (o : Octet) (s : State) : Host.Outcome State Fault Refusal :=
  inCore (inState .between l (alignedOctet l o (takeBetween l))) s

/-- DATA_OCTET (R129, R133): an aligned octet taken in IN_FRAME. -/
def execDataOctet (l : Line) (o : Octet) (s : State) : Host.Outcome State Fault Refusal :=
  inCore (inState .inFrame l (alignedOctet l o (takeInFrame l))) s

/-- CLOSING_DELIMITER (R137): the octet 0xC3 taken in IN_FRAME. After an escape it completes a cancel marker. -/
def execClosingDelimiter (l : Line) (s : State) : Host.Outcome State Fault Refusal :=
  inCore (inState .inFrame l (alignedOctet l 0xC3 (takeInFrame l))) s

/-- CANCEL_MARKER (R139): the cancel marker taken in IN_FRAME; its two octets are then the most recent bits. -/
def execCancelMarker (l : Line) (s : State) : Host.Outcome State Fault Refusal :=
  inCore (inState .inFrame l fun s =>
    abandonFrame l (setReceiver l { s.receiver l with recent := 0xC9C3 } s)) s

/-- ESCAPE (R129): the octet 0xC9 taken in IN_FRAME; after an escape it is the data octet 0xD9. -/
def execEscape (l : Line) (s : State) : Host.Outcome State Fault Refusal :=
  inCore (inState .inFrame l (alignedOctet l 0xC9 (takeInFrame l))) s

/-- R140: a rejected frame, ended by a delimiter, is counted for its reason. -/
def countRejected (l : Line) (s : State) : State :=
  match (s.receiver l).reject with
  | none => s
  | some .longFrame => raise .longFrame (bump (.line l .longFrames) s)
  | some .storeDrop => raise .storeDrop (bump (.line l .storeDrops) s)

/-- R140: the delimiter pattern found in DISCARDING: a cancel marker where the eight bits before it form 0xC9 (R129), and
otherwise the end of the rejected frame. -/
def leaveDiscarding (l : Line) (s : State) : State :=
  setReceiver l (s.receiver l).atDelimiter
    (if earlierBits (s.receiver l).recent = 0xC9 then s else countRejected l s)

/-- DISCARDING_DELIMITER (R140): the hunt takes bits and finds the first delimiter pattern in DISCARDING. -/
def execDiscardingDelimiter (l : Line) (bits : List Bool) (s : State) : Host.Outcome State Fault Refusal :=
  inCore (inState .discarding l (hunting l bits (leaveDiscarding l))) s

end Sys2Proof.Machine
end

