-- ==== Sys2Proof/Machine/Clocks.lean ====
section
/-! DEFINITION. Timekeeping and uptime (chapter 3), with the aging pass of the queue manager (R11): the meanings of the
clock events. -/

namespace Sys2Proof.Machine

/-! ## The calendar (R48) -/

/-- R48, steps 3 to 5: the date at a day change. -/
def Calendar.nextDay (c : Calendar) : Calendar :=
  let weekday := if c.weekday + 1 < 7 then c.weekday + 1 else 0
  if c.day + 1 ≤ daysIn c.month c.year then { c with weekday := weekday, day := c.day + 1 }
  else if c.month + 1 < 13 then { c with weekday := weekday, day := 1, month := c.month + 1 }
  else
    { c with weekday := weekday, day := 1, month := 1, year := if c.year + 1 < 100 then c.year + 1 else 0 }

/-- R48: the calendar one second later, with its carries. -/
def Calendar.tick (c : Calendar) : Calendar :=
  if c.second + 1 < 60 then { c with second := c.second + 1 }
  else if c.minute + 1 < 60 then { c with second := 0, minute := c.minute + 1 }
  else if c.hour + 1 < 24 then { c with second := 0, minute := 0, hour := c.hour + 1 }
  else Calendar.nextDay { c with second := 0, minute := 0, hour := 0 }

/-- R49: the next second step rolls the seconds, and so is a minute boundary. -/
def Calendar.atRoll (c : Calendar) : Bool := 60 ≤ c.second + 1

/-- R48: timekeeping's part of a second step. -/
def Timekeeping.secondStep (t : Timekeeping) : Timekeeping := { t with cal := t.cal.tick, divider := 0 }

/-- R48, R49: a second step. At a minute boundary the schedule unit takes it with the new calendar time, if main supply
powers it. -/
def takeSecondStep (s : State) : State :=
  if s.tk.cal.atRoll && s.supply == .main then
    windowsBoundary s.tk.cal.tick { s with tk := s.tk.secondStep }
  else { s with tk := s.tk.secondStep }

/-- The timekeeping domain is powered, by main supply or by VBAK (R47). -/
def State.timekeeps (s : State) : Bool := s.supply != .none

/-- SECOND_STEP (R48): taken while the crystal runs. -/
def execSecondStep (s : State) : Host.Outcome State Fault Refusal :=
  .next (if s.timekeeps && s.tk.crystal == .running then takeSecondStep s else s)

/-- MINUTE_BOUNDARY (R26, R49): the second step that rolls the seconds from 59 to 0 (log 6). -/
def execMinuteBoundary (s : State) : Host.Outcome State Fault Refusal :=
  .next (if s.timekeeps && s.tk.crystal == .running && s.tk.cal.atRoll then takeSecondStep s else s)

/-- R50, R41: an oscillator stop. The schedule unit and the event unit take it while main supply powers them. -/
def takeOscillatorStop (s : State) : State :=
  let s1 := { s with tk := { s.tk with crystal := .stopped, timeValid := false } }
  if s.supply = .main then closeWindows (raise .clockStopped s1) else s1

/-- OSCILLATOR_STOP (R50): taken while the crystal runs. -/
def execOscillatorStop (s : State) : Host.Outcome State Fault Refusal :=
  .next (if s.timekeeps && s.tk.crystal == .running then takeOscillatorStop s else s)

/-- R51: the first crystal cycle while STOPPED: RUNNING again, the divider advanced from the count it held. A cycle that
completes the count of 32768 is a second step (R48). -/
def takeCrystalReturn (s : State) : State :=
  let s1 := { s with tk := { s.tk with crystal := .running, divider := s.tk.divider + 1 } }
  if 32768 ≤ s.tk.divider + 1 then takeSecondStep s1 else s1

/-- CRYSTAL_RETURN (R51): taken while the crystal is STOPPED. -/
def execCrystalReturn (s : State) : Host.Outcome State Fault Refusal :=
  .next (if s.timekeeps && s.tk.crystal == .stopped then takeCrystalReturn s else s)

/-! ## Uptime and aging (R11, R57) -/

/-- R11, R58: a frame with this stamp has reached the max age. -/
def overAge (maxAge : Nat) (now stamp : Word32) : Bool := maxAge ≤ (now - stamp).toNat

/-- R11: the frames an aging pass drops from a queue, oldest first: the heads that have reached the max age. -/
def Queue.agedOut (stampOf : Block → Word32) (now : Word32) (x : Queue) : List Block :=
  if x.maxAge = 0 then [] else x.frames.takeWhile fun h => overAge x.maxAge now (stampOf h)

/-- R11: the queue after an aging pass: the heads dropped, and the mark decremented with each while it is above 0. -/
def Queue.aged (stampOf : Block → Word32) (now : Word32) (x : Queue) : Queue :=
  { x with
    frames := x.frames.drop (x.agedOut stampOf now).length
    mark := x.mark - (x.agedOut stampOf now).length }

/-- A list in the order of a code: every order of a list has a code. -/
def permute {α : Type} (code : Nat) : List α → List α
  | [] => []
  | x :: xs => (permute (code / (xs.length + 1)) xs).insertIdx (code % (xs.length + 1)) x

/-- The arrival stamp of a frame. -/
def State.stampOf (s : State) (h : Block) : Word32 := (s.record h).stamp

/-- R11: the frames dropped from a queue at the present uptime. -/
def State.agedOut (s : State) (q : QueueIx) : List Block := (s.queue q).agedOut s.stampOf s.uptime

/-- R120: the order in which the passes over the queues release their chains: a free value (log 13). -/
def State.agingQueues (s : State) : List QueueIx := permute (Config.agingOrder s.draws) (List.finRange 8)

/-- R19: the age drops of every queue counted. -/
def countAgeDrops (s : State) : List QueueIx → State → State
  | [], t => t
  | q :: qs, t => countAgeDrops s qs (bumpBy (.queue q .ageDrops) (s.agedOut q).length t)

/-- R11, R120: the aging pass over the eight queues at the present uptime. -/
def agingPass (s : State) : State :=
  let counted := countAgeDrops s (List.finRange 8) s
  raiseTimes .ageDrop ((List.finRange 8).flatMap s.agedOut).length
    { counted with
      store := (releaseFrames (s.agingQueues.flatMap s.agedOut) s).store
      queues := mapTable (fun _ x => x.aged s.stampOf s.uptime) s.queues
      draws := s.draws + 1 }

/-- R57, R197: an uptime second: uptime advances, the aging pass is taken, and a running repeat timer decrements. -/
def takeUptimeSecond (s : State) : State :=
  let s1 := { s with uptime := s.uptime + 1, uptimeDivider := 0, events := s.events.uptimeSecond }
  agingPass s1

/-- UPTIME_SECOND (R57). -/
def execUptimeSecond (s : State) : Host.Outcome State Fault Refusal := inCore takeUptimeSecond s

end Sys2Proof.Machine
end

