-- ==== Sys2Proof/Machine/Notices.lean ====
section
/-! DEFINITION. The notice unit's own events (10.3, 10.4). -/

namespace Sys2Proof.Machine

/-- NOTICE_REPEAT_EXPIRY (R197): taken when the repeat timer has reached 0 in OUTSTANDING. -/
def execNoticeRepeatExpiry (s : State) : Host.Outcome State Fault Refusal :=
  inCore (fun s => if s.events.repeatExpired then { s with events := s.events.owe } else s) s

/-- R195: the line and slot a notice would be built in: the unit is OWED, the part managed, the notice line set, and
that line has a FREE slot. -/
def State.noticeSlot (s : State) : Option (Line × SlotIx) :=
  if s.events.notice.state = .owed ∧ s.managed then
    match s.settings.noticeLine with
    | none => none
    | some l => (s.agent l).firstFree.map fun i => (l, i)
  else none

/-- R149, R196: the frame of the notice about to be built. -/
def State.noticeFrame (s : State) : SlotFrame :=
  { role := .notice
    destination := s.settings.noticeStation
    kind := 0xE3
    payload := s.noticePayload (s.events.notice.number + 1) }

/-- R195: the build. -/
def buildNotice (s : State) : State :=
  match s.noticeSlot with
  | none => s
  | some (l, i) =>
    { setAgent l ((s.agent l).place i s.noticeFrame) s with
      events := s.events.noticeBuilt s.settings.noticeRepeat }

/-- NOTICE_BUILD (R195): taken while its three conditions hold in OWED. -/
def execNoticeBuild (s : State) : Host.Outcome State Fault Refusal := inCore buildNotice s

end Sys2Proof.Machine
end

