-- ==== Sys2Proof/Machine/Resets.lean ====
section
/-! DEFINITION. Restarts, resets and supplies (8.5, 00_scope 1.6, and the reset rules of each chapter). -/

namespace Sys2Proof.Machine

/-- R164: a traffic restart, at every block (R22, R87, R127, R147, R164). DESIGN CHOICE (log 31): a
charge already sent, of which the rules do not speak, stands. Transmitter B's timers stop with its state; the rules give
them no value, and they stand as they were: DESIGN CHOICE (log 32). -/
def trafficRestart (s : State) : State :=
  let s1 := cancelB (cancelA s)
  { s1 with
    rx := ⟨Receiver.seeking, Receiver.seeking⟩
    store := Store.rebuilt s.store.mem
    queues := mapTable (fun _ x => { x with frames := [], frozen := false, mark := 0 }) s.queues
    txA := .idle
    txB := .idle
    trunkMode := .running
    mgmt := ⟨s.mgmt.a.trafficRestart, s.mgmt.b.trafficRestart⟩
    restart := .normal }

/-- The cancel markers a core reset sends as it begins (R86): none where the core domain was not powered. -/
def cancelAtReset (s : State) : State := if s.supply = .main then cancelB (cancelA s) else s

/-- R61, R165 and the reset rules of each chapter: a core reset, the station sampled from the straps (R144). The
timekeeping record is kept but for the restart generation (R59); the levels of the input pins and the octets of the
blocks are not the reset's to change. DESIGN CHOICE (log 31): a charge sent and not yet taken by the schedule unit,
of which the rules do not speak, is dropped. -/
def coreReset (strap : Octet) (s : State) : State :=
  let s1 := cancelAtReset s
  { pending := s.pending
    draws := s1.draws
    supply := .main
    tk := { s.tk with generation := s.tk.generation + 1 }
    uptime := 0
    uptimeDivider := 0
    station := strap
    settings := Settings.default
    rx := ⟨Receiver.seeking, Receiver.seeking⟩
    store := Store.rebuilt s.store.mem
    queues := tabulate 8 Queue.blank
    classifier := Classifier.blank
    windows := tabulate 24 fun _ => Window.blank
    charge := none
    txA := .idle
    txB := .idle
    grantTimer := 0
    holdoffTimer := 0
    trunkMode := .running
    grant := s.grant
    sent := s1.sent
    mgmt := ⟨LineAgent.blank, LineAgent.blank⟩
    restart := .normal
    events := EventUnit.afterReset s.tk.timeValid
    counters := zeroCounters }

/-- R60: timekeeping start: the timekeeping domain starts from nothing. -/
def timekeepingStart (s : State) : State := { s with tk := Timekeeping.start, supply := .none }

/-- R163: a restart that is due is performed by its scope. -/
def performRestart (strap : Octet) (s : State) : State :=
  match s.restart with
  | .normal => s
  | .pending _ _ _ _ => s
  | .due .traffic _ _ => trafficRestart s
  | .due .full _ _ => coreReset strap s

/-- RESTART_PERFORMANCE (R163 to R165): taken in RESTART_DUE. The straps are sampled where the scope is FULL. -/
def execRestartPerformance (strap : Octet) (s : State) : Host.Outcome State Fault Refusal :=
  inCore (performRestart strap) s

/-- R163: the deadline timer runs out in RESTART_PENDING. -/
def expireDeadline (s : State) : State :=
  { s with
    restart :=
      match s.restart with
      | .normal => .normal
      | .pending sc l i _ => .due sc l i
      | .due sc l i => .due sc l i }

/-- RESTART_DEADLINE_EXPIRY (R163). -/
def execRestartDeadlineExpiry (s : State) : Host.Outcome State Fault Refusal := inCore expireDeadline s

/-- CORE_RESET (R61): RESETn, or main supply returning. Where neither supply had powered the timekeeping domain, its
start comes first (R60; log 10). -/
def execCoreReset (strap : Octet) (s : State) : Host.Outcome State Fault Refusal :=
  .next (coreReset strap (if s.supply = .none then timekeepingStart s else s))

/-- R60: VBAK alone comes up where there was no supply: timekeeping start, and the timekeeping domain works on VBAK until
main supply returns with the core reset that follows. -/
def vbakStart (s : State) : State :=
  if s.supply = .none then { timekeepingStart s with supply := .backup } else s

/-- POWER_ON_WITH_TIME_LOSS (R60): timekeeping start. Where main supply comes up, a core reset follows; where VBAK alone
does, the core domain stays without power, and CORE_RESET follows when main supply returns (log 10). -/
def execPowerOnWithTimeLoss (strap : Option Octet) (s : State) : Host.Outcome State Fault Refusal :=
  .next
    (match strap with
    | none => vbakStart s
    | some strap => coreReset strap (timekeepingStart s))

/-- MAIN_SUPPLY_LOSS (R49): the core domain stops; the timekeeping domain counts on VBAK. The core domain's records
are not read again before the core reset that ends the absence (log 21). -/
def execMainSupplyLoss (s : State) : Host.Outcome State Fault Refusal :=
  .next (if s.supply = .main then { s with supply := .backup } else s)

/-- VBAK_LOSS (R60): the backup supply is lost while main supply is absent, so that the next power-on starts the
timekeeping domain from nothing. -/
def execVbakLoss (s : State) : Host.Outcome State Fault Refusal :=
  .next (if s.supply = .backup then { s with supply := .none } else s)

end Sys2Proof.Machine
end

