-- ==== Sys2Proof/Machine/Dispatch.lean ====
section
/-! DEFINITION. The meaning of every command: one arm per constructor of `Instr`. -/

namespace Sys2Proof.Machine

def exec (i : Instr) (s : State) : Host.Outcome State Fault Refusal :=
  match i with
  | .huntDelimiter hunted => Sys2Proof.Machine.execHuntDelimiter hunted s
  | .betweenOctet l o => Sys2Proof.Machine.execBetweenOctet l o s
  | .dataOctet l o => Sys2Proof.Machine.execDataOctet l o s
  | .closingDelimiter l => Sys2Proof.Machine.execClosingDelimiter l s
  | .cancelMarker l => Sys2Proof.Machine.execCancelMarker l s
  | .discardingDelimiter l bits => Sys2Proof.Machine.execDiscardingDelimiter l bits s
  | .escape l => Sys2Proof.Machine.execEscape l s
  | .identify l src seq ps => Sys2Proof.Machine.execIdentify l src seq ps s
  | .readSettings l src seq ps => Sys2Proof.Machine.execReadSettings l src seq ps s
  | .writeSettings l src seq ps => Sys2Proof.Machine.execWriteSettings l src seq ps s
  | .setRemoteAccess l src seq ps => Sys2Proof.Machine.execSetRemoteAccess l src seq ps s
  | .readTime l src seq ps => Sys2Proof.Machine.execReadTime l src seq ps s
  | .setTime l src seq ps => Sys2Proof.Machine.execSetTime l src seq ps s
  | .readRule l src seq ps => Sys2Proof.Machine.execReadRule l src seq ps s
  | .readBankState l src seq ps => Sys2Proof.Machine.execReadBankState l src seq ps s
  | .writeRule l src seq ps => Sys2Proof.Machine.execWriteRule l src seq ps s
  | .clearStandby l src seq ps => Sys2Proof.Machine.execClearStandby l src seq ps s
  | .activate l src seq ps => Sys2Proof.Machine.execActivate l src seq ps s
  | .readQueue l src seq ps => Sys2Proof.Machine.execReadQueue l src seq ps s
  | .writeQueue l src seq ps => Sys2Proof.Machine.execWriteQueue l src seq ps s
  | .freezeQueue l src seq ps => Sys2Proof.Machine.execFreezeQueue l src seq ps s
  | .resumeQueue l src seq ps => Sys2Proof.Machine.execResumeQueue l src seq ps s
  | .flushQueue l src seq ps => Sys2Proof.Machine.execFlushQueue l src seq ps s
  | .releaseQueue l src seq ps => Sys2Proof.Machine.execReleaseQueue l src seq ps s
  | .readWindow l src seq ps => Sys2Proof.Machine.execReadWindow l src seq ps s
  | .readWindowState l src seq ps => Sys2Proof.Machine.execReadWindowState l src seq ps s
  | .writeWindow l src seq ps => Sys2Proof.Machine.execWriteWindow l src seq ps s
  | .stopTrunk l src seq ps => Sys2Proof.Machine.execStopTrunk l src seq ps s
  | .restartTrunk l src seq ps => Sys2Proof.Machine.execRestartTrunk l src seq ps s
  | .readEvents l src seq ps => Sys2Proof.Machine.execReadEvents l src seq ps s
  | .ackEvents l src seq ps => Sys2Proof.Machine.execAckEvents l src seq ps s
  | .writeEventMask l src seq ps => Sys2Proof.Machine.execWriteEventMask l src seq ps s
  | .readCounters l src seq ps => Sys2Proof.Machine.execReadCounters l src seq ps s
  | .restart l src seq ps => Sys2Proof.Machine.execRestart l src seq ps s
  | .unknownRequestCode l src seq code ps => Sys2Proof.Machine.execUnknownRequestCode l src seq code ps s
  | .selectionB => Sys2Proof.Machine.execSelectionB s
  | .selectionA => Sys2Proof.Machine.execSelectionA s
  | .grantPresent => Sys2Proof.Machine.execGrantPresent s
  | .grantTimeout => Sys2Proof.Machine.execGrantTimeout s
  | .grantLoss => Sys2Proof.Machine.execGrantLoss s
  | .holdoffExpiry => Sys2Proof.Machine.execHoldoffExpiry s
  | .completionBFrame chargeFirst => Sys2Proof.Machine.execCompletionBFrame chargeFirst s
  | .completionBSlot => Sys2Proof.Machine.execCompletionBSlot s
  | .completionA => Sys2Proof.Machine.execCompletionA s
  | .charge => Sys2Proof.Machine.execCharge s
  | .secondStep => Sys2Proof.Machine.execSecondStep s
  | .minuteBoundary => Sys2Proof.Machine.execMinuteBoundary s
  | .oscillatorStop => Sys2Proof.Machine.execOscillatorStop s
  | .crystalReturn => Sys2Proof.Machine.execCrystalReturn s
  | .uptimeSecond => Sys2Proof.Machine.execUptimeSecond s
  | .noticeRepeatExpiry => Sys2Proof.Machine.execNoticeRepeatExpiry s
  | .noticeBuild => Sys2Proof.Machine.execNoticeBuild s
  | .restartDeadlineExpiry => Sys2Proof.Machine.execRestartDeadlineExpiry s
  | .restartPerformance strap => Sys2Proof.Machine.execRestartPerformance strap s
  | .coreReset strap => Sys2Proof.Machine.execCoreReset strap s
  | .powerOnWithTimeLoss strap => Sys2Proof.Machine.execPowerOnWithTimeLoss strap s
  | .mainSupplyLoss => Sys2Proof.Machine.execMainSupplyLoss s
  | .vbakLoss => Sys2Proof.Machine.execVbakLoss s

end Sys2Proof.Machine
end

