-- ==== Sys2Proof/Safety.lean ====
section
/-! DEFINITION. What counts as a safe state of the part, as invariants that every step keeps, and the terms in which
statements about requests are made: what a request needs to be executed, and what its answer leaves. -/

namespace Sys2Proof.Machine

/-! ## The frame store (R2, R3, R111, R113) -/

/-- The frame handles of an in-flight record. -/
def InFlight.framesHeld : InFlight → List Block
  | .frame _ h _ _ => [h]
  | .slot _ => []

/-- The frame handles in flight on transmitter A. -/
def TxA.framesHeld : TxA → List Block
  | .idle => []
  | .sending f _ => f.framesHeld

/-- The frame handles in flight on transmitter B. -/
def TxB.framesHeld : TxB → List Block
  | .idle => []
  | .requesting f => f.framesHeld
  | .sending f _ => f.framesHeld
  | .holdoff => []

/-- The handles of the complete frames of the part: those in the eight queues and those in flight. -/
def State.framesComplete (s : State) : List Block :=
  s.queues.toList.flatMap (·.frames) ++ s.txA.framesHeld ++ s.txB.framesHeld

/-- The handles of all frames the part holds: those being received, in queues and in flight. -/
def State.framesHeld (s : State) : List Block :=
  s.rx.a.handle.toList ++ s.rx.b.handle.toList ++ s.framesComplete

/-- R111: the blocks of the four places, one place after another. -/
def State.blockPlaces (s : State) : List Block :=
  s.store.free ++ s.framesHeld.flatMap fun h => (s.record h).chain

/-- R111, R113: every block is in exactly one place, every chain begins with its frame's handle, and an intake holds a
frame only while its receiver is in IN_FRAME. -/
structure BlocksSafe (s : State) : Prop where
  everyBlockOnce : s.blockPlaces.Perm allBlocks
  chainsBegin : ∀ h ∈ s.framesHeld, (s.record h).chain.head? = some h
  heldInFrame : ∀ l, (s.receiver l).state ≠ .inFrame → (s.receiver l).handle = none

/-- R3, R113, R130, R133: the counts of the frames being received, and the chain length and frame length of every
frame held. -/
structure LengthsSafe (s : State) : Prop where
  decodedCount : ∀ l, (s.receiver l).state = .inFrame →
    (s.receiver l).decoded = (s.receiver l).held.length + s.receivedLength l ∧ (s.receiver l).held.length ≤ 2 ∧
      ((s.receiver l).held.length < 2 → (s.receiver l).handle = none)
  chainLengths : ∀ h ∈ s.framesHeld,
    (s.record h).chain.length = chainLength (s.record h).length ∧
      1 ≤ (s.record h).length ∧ (s.record h).length ≤ 1023
  completeLengths : ∀ h ∈ s.framesComplete, 3 ≤ (s.record h).length

/-- The octets of the blocks are in canonical form, at addresses of the 512 blocks of 64 octets (R111). -/
structure MemorySafe (s : State) : Prop where
  canonical : Memory.wf s.store.mem = true
  inBlocks : ∀ c ∈ s.store.mem, c.1 < 32768

/-! ## The release marks (R9) -/

/-- The source queue of a marked frame in flight. -/
def InFlight.markedSource : InFlight → Option QueueIx
  | .frame q _ marked _ => if marked then some q else none
  | .slot _ => none

/-- The source queue of a marked frame in flight on transmitter B, the one transmitter that returns frames. -/
def TxB.markedSource : TxB → Option QueueIx
  | .idle => none
  | .requesting f => f.markedSource
  | .sending f _ => f.markedSource
  | .holdoff => none

/-- R9: a mark is never greater than the frames of its queue, the marks of EXP and INB stay at 0, and no frame of
theirs is in flight marked. -/
structure MarksSafe (s : State) : Prop where
  bounded : ∀ q, (s.queue q).mark ≤ (s.queue q).count
  unmarked : ∀ q, isScheduled q = false → (s.queue q).mark = 0
  inFlight : ∀ q, s.txB.markedSource = some q → isScheduled q = true

/-! ## Windows, clocks and settings (R23, R24, R37, R38, R41, R47, R170) -/

/-- R23: the fields of a stored entry are within the table. -/
def WindowEntry.inRange (e : WindowEntry) : Bool :=
  e.minute ≤ 59 && e.hour.all (· ≤ 23) && e.weekdays.all (· != 0) && e.day.all (fun d => 1 ≤ d && d ≤ 31) &&
    1 ≤ e.duration && e.duration ≤ 1439 && e.budget ≤ 0xFFFFFF && e.queueSet &&& 0x81 == 0 && e.queueSet != 0

/-- R24, R37, R38: a window state record agrees with its entry. -/
def Window.agrees (w : Window) : Bool :=
  match w.state.phase with
  | .closed => w.state.minutes == 0 && w.state.budget ≤ 0xFFFFFF
  | .opened =>
    1 ≤ w.state.minutes && w.state.minutes ≤ w.entry.duration && w.state.budget ≤ w.entry.budget &&
      (w.entry.budget == 0 || 1 ≤ w.state.budget)
  | .spent =>
    1 ≤ w.state.minutes && w.state.minutes ≤ w.entry.duration && w.state.budget == 0 && w.entry.budget != 0

/-- R23, R24, R41: every entry is within its table, every state record agrees with its entry, and while TIME_VALID is
no every window of a powered part is CLOSED. -/
structure WindowsSafe (s : State) : Prop where
  entries : ∀ i : WindowIx, s.windows[i].entry.inRange = true
  states : ∀ i : WindowIx, s.windows[i].agrees = true
  closedWithoutTime : s.supply = .main → s.tk.timeValid = false → ∀ i : WindowIx, s.windows[i].state.phase = .closed

/-- R47, R50: the timekeeping record is within its table, and TIME_VALID is yes only while the crystal runs. -/
structure ClockSafe (s : State) : Prop where
  calendar : s.tk.cal.valid = true
  divider : s.tk.divider ≤ 32767
  validRuns : s.tk.timeValid = true → s.tk.crystal = .running

/-! ## Events and the notice unit (R193, R194) -/

/-- R193: the notice unit's state agrees with the events and the mask. -/
structure EventsSafe (s : State) : Prop where
  quiet : s.events.unmaskedPending = (s.events.notice.state != .quiet)
  owed : s.events.unmaskedNew = true → s.events.notice.state = .owed
  timer : s.events.notice.timer.isSome = true → s.events.notice.state = .outstanding

/-! ## Slots, caches and the restart state (R151, R152, R160, R162) -/

/-- The slot in flight of an in-flight record. -/
def InFlight.slotHeld : InFlight → Option SlotIx
  | .frame _ _ _ _ => none
  | .slot i => some i

/-- The slot in flight on a line. -/
def State.slotInFlight (s : State) : Line → Option SlotIx
  | .a =>
    match s.txA with
    | .idle => none
    | .sending f _ => f.slotHeld
  | .b =>
    match s.txB with
    | .idle => none
    | .requesting f => f.slotHeld
    | .sending f _ => f.slotHeld
    | .holdoff => none

/-- R151, R152: the slots, queued order and cache of a line agree with one another. -/
structure LineAgent.Safe (g : LineAgent) : Prop where
  orderOnce : g.order.Nodup
  ordered : ∀ i : SlotIx, i ∈ g.order ↔ (g.slots[i].state = .queued ∨ g.slots[i].state = .sending)
  freeEmpty : ∀ i : SlotIx, g.slots[i].state = .free ↔ g.slots[i].content = none
  cachedOnly : ∀ i : SlotIx, g.slots[i].state = .cached → g.isCacheSlot i = true
  cacheHolds : ∀ c, g.cache = some c → ∃ f, g.slots[c.slot].content = some f ∧ f.role = .response ∧
    f.payload.take 2 = [c.seq, c.code]

/-- R160, R162: each line's records agree, a slot is SENDING exactly while its transmitter has it in flight, and the
response of a pending RESTART is its line's cache slot, not yet ended. -/
structure AgentSafe (s : State) : Prop where
  lines : ∀ l, (s.agent l).Safe
  sending : ∀ l, ∀ i : SlotIx, (s.agent l).slots[i].state = .sending ↔ s.slotInFlight l = some i
  pendingResponse : ∀ sc l i t, s.restart = .pending sc l i t →
    (s.agent l).isCacheSlot i = true ∧ i ∈ (s.agent l).order

/-! ## The calendar as a count of seconds (R48) -/

/-- R48: the days of the months before a month of a year. -/
def daysBeforeMonth (month year : Nat) : Nat := ((List.range (month - 1)).map fun m => daysIn (m + 1) year).sum

/-- R48: the days of the years before a year, each of 365 or, divisible by 4, 366. -/
def daysBeforeYear (year : Nat) : Nat := 365 * year + (year + 3) / 4

/-- The days from 2000-01-01 to a date. -/
def Calendar.dayNumber (c : Calendar) : Nat := daysBeforeYear c.year + daysBeforeMonth c.month c.year + (c.day - 1)

/-- The seconds from 2000-01-01 00:00:00 to a calendar time. -/
def Calendar.secondNumber (c : Calendar) : Nat := 86400 * c.dayNumber + 3600 * c.hour + 60 * c.minute + c.second

/-! ## Requests (R153 to R158) -/

/-- The command of a request code: its row's, or UNKNOWN_REQUEST_CODE for a code not in the catalogue. -/
def requestInstr (r : Request) : Instr :=
  match r.code.toNat with
  | 0x01 => .identify r.line r.src r.seq r.params
  | 0x02 => .readSettings r.line r.src r.seq r.params
  | 0x03 => .writeSettings r.line r.src r.seq r.params
  | 0x04 => .setRemoteAccess r.line r.src r.seq r.params
  | 0x10 => .readTime r.line r.src r.seq r.params
  | 0x11 => .setTime r.line r.src r.seq r.params
  | 0x20 => .readRule r.line r.src r.seq r.params
  | 0x21 => .readBankState r.line r.src r.seq r.params
  | 0x22 => .writeRule r.line r.src r.seq r.params
  | 0x23 => .clearStandby r.line r.src r.seq r.params
  | 0x24 => .activate r.line r.src r.seq r.params
  | 0x30 => .readQueue r.line r.src r.seq r.params
  | 0x31 => .writeQueue r.line r.src r.seq r.params
  | 0x32 => .freezeQueue r.line r.src r.seq r.params
  | 0x33 => .resumeQueue r.line r.src r.seq r.params
  | 0x34 => .flushQueue r.line r.src r.seq r.params
  | 0x35 => .releaseQueue r.line r.src r.seq r.params
  | 0x40 => .readWindow r.line r.src r.seq r.params
  | 0x41 => .readWindowState r.line r.src r.seq r.params
  | 0x42 => .writeWindow r.line r.src r.seq r.params
  | 0x50 => .stopTrunk r.line r.src r.seq r.params
  | 0x51 => .restartTrunk r.line r.src r.seq r.params
  | 0x60 => .readEvents r.line r.src r.seq r.params
  | 0x61 => .ackEvents r.line r.src r.seq r.params
  | 0x62 => .writeEventMask r.line r.src r.seq r.params
  | 0x63 => .readCounters r.line r.src r.seq r.params
  | 0x70 => .restart r.line r.src r.seq r.params
  | _ => .unknownRequestCode r.line r.src r.seq r.code r.params

/-- R209: the parameter length of a request code; none for a code not in the catalogue. -/
def paramLength (code : Octet) : Option Nat :=
  match code.toNat with
  | 0x01 | 0x02 | 0x10 | 0x21 | 0x23 | 0x41 | 0x50 | 0x51 | 0x60 => some 0
  | 0x04 | 0x24 | 0x30 | 0x32 | 0x33 | 0x34 | 0x35 | 0x40 | 0x70 => some 1
  | 0x20 | 0x61 | 0x62 => some 2
  | 0x63 => some 4
  | 0x31 => some 5
  | 0x11 => some 7
  | 0x42 => some 12
  | 0x03 => some 13
  | 0x22 => some 18
  | _ => none

/-- A request reaches the agent (R145) and passes its authority check (R154). -/
structure Authorised (s : State) (r : Request) : Prop where
  powered : s.supply = .main
  managed : s.managed = true
  authority : authority r.line s.settings.remote (requestClass r.code r.params) = .proceeds

/-- R153: a request passes steps 1 to 4: it is authorised, no duplicate, finds the FREE slot `i`, and no restart is
pending. -/
structure Ready (s : State) (r : Request) (i : SlotIx) : Prop where
  authorised : Authorised s r
  fresh : (s.agent r.line).isDuplicate r.seq r.code = false
  slot : (s.agent r.line).firstFree = some i
  noRestart : s.restartPending = false

/-- R149, R151, R210: the slot that holds a response newly placed. -/
def responseSlot (r : Request) (st : Status) (data : List Octet) : Slot :=
  { state := .queued
    content :=
      some { role := .response, destination := r.src, kind := 0xE2, payload := [r.seq, r.code, st.code] ++ data }
    attempts := 0 }

/-- A response is placed in slot `i` of its request's line, at the end of the queued order, and every other slot of the
part is as in `u` (R154, R157). -/
structure Placed (r : Request) (i : SlotIx) (st : Status) (data : List Octet) (u t : State) : Prop where
  slot : (t.agent r.line).slots[i] = responseSlot r st data
  others : ∀ j : SlotIx, j ≠ i → (t.agent r.line).slots[j] = (u.agent r.line).slots[j]
  order : (t.agent r.line).order = (u.agent r.line).order.filter (· != i) ++ [i]
  cache : (t.agent r.line).cache = (u.agent r.line).cache
  otherLine : ∀ l, l ≠ r.line → t.agent l = u.agent l

/-- R158: an execution's answer, where the request's owner has left the state `u`: the response is placed in slot `i`
and cached, a previous cache slot that is CACHED becomes FREE, the executed counter increments, and nothing else of
`u` changes. -/
structure Answered (r : Request) (i : SlotIx) (st : Status) (data : List Octet) (u t : State) : Prop where
  slot : (t.agent r.line).slots[i] = responseSlot r st data
  others : ∀ j : SlotIx, j ≠ i → (t.agent r.line).slots[j] =
    if (u.agent r.line).isCacheSlot j = true ∧ (u.agent r.line).slots[j].state = .cached then Slot.blank
    else (u.agent r.line).slots[j]
  order : (t.agent r.line).order = (u.agent r.line).order.filter (· != i) ++ [i]
  cache : (t.agent r.line).cache = some ⟨r.seq, r.code, i⟩
  otherLine : ∀ l, l ≠ r.line → t.agent l = u.agent l
  executed : (t.count (.mgmt .executed)).toNat = min ((u.count (.mgmt .executed)).toNat + 1) 0xFFFFFFFF
  rest : t = { u with mgmt := t.mgmt, counters := u.counters.set 114 (t.count (.mgmt .executed)) (by decide) }

/-! ## Counters (R204) -/

/-- A counter is increased by n, stopping at 2^32 − 1. -/
def Counted (c : Counter) (n : Nat) (s t : State) : Prop :=
  (t.count c).toNat = min ((s.count c).toNat + n) 0xFFFFFFFF

/-- Every counter outside the list is as it was. -/
def OthersUncounted (cs : List Counter) (s t : State) : Prop :=
  ∀ k : Fin 121, (∀ c ∈ cs, c.place ≠ k) → t.counters[k] = s.counters[k]

/-! ## Releases (R124) -/

/-- R124: the armed state after a release of so many blocks. -/
def State.armedAfter (s : State) (released : Nat) : Bool :=
  s.store.armed || decide (s.settings.lowWater + 32 < s.store.free.length + released)

/-! ## Rule entries (R91) -/

/-- R91: the optional parts of a stored entry are within the table. -/
def RuleEntry.inRange (e : RuleEntry) : Bool :=
  e.probe.all (fun p => p.offset ≤ 31) &&
    e.lengths.all (fun r => 3 ≤ r.minimum && r.maximum ≤ 1023 && r.minimum ≤ r.maximum)

/-! ## Lines (R142, R143) -/

/-- R143: what a line carried of a transmission that a cancel marker cut: not more than all but the last of its octets,
then the marker. -/
def CutShort (stream carried : List Octet) : Prop :=
  ∃ n, n ≤ stream.length - 1 ∧
    carried = stream.take n ++ (if (stream.take n).getLast? = some 0xC9 then [0xC3] else [0xC9, 0xC3])

/-- R86, R87: what a transmitter of line A in SENDING leaves on its line at a reset or restart. -/
def CutA (s : State) (carried : List Octet) : Prop :=
  match s.txA with
  | .idle => carried = s.sent.a
  | .sending _ stream => CutShort stream carried

/-- R86, R87: and a transmitter of line B. -/
def CutB (s : State) (carried : List Octet) : Prop :=
  match s.txB with
  | .idle => carried = s.sent.b
  | .requesting _ => carried = s.sent.b
  | .sending _ stream => CutShort stream carried
  | .holdoff => carried = s.sent.b

/-- Commands taken one after another, while each answers a next state. -/
def runCommands : List Instr → State → Host.Outcome State Fault Refusal
  | [], s => .next s
  | c :: cs, s =>
    match exec c s with
    | .next t => runCommands cs t
    | .fault f => .fault f
    | .refused r => .refused r

/-- R128: the most recent bits of a receiver after the eight bits of one more octet. -/
def recentAfter (r : Receiver) (o : Octet) : Word16 := r.recent.extractLsb' 0 8 ++ o

/-- R128: the most recent bits after the first n of a list of bits. -/
def bitsAfter (recent : Word16) (bits : List Bool) (n : Nat) : Word16 := (bits.take n).foldl pushBit recent

/-- R128: a hunt through these bits first finds the eight most recent to form 0xC3 after n of them. -/
structure DelimiterFirstAt (recent : Word16) (bits : List Bool) (n : Nat) : Prop where
  within : 1 ≤ n ∧ n ≤ bits.length
  found : (bitsAfter recent bits n).extractLsb' 0 8 = (0xC3 : Octet)
  first : ∀ m, 1 ≤ m → m < n → (bitsAfter recent bits m).extractLsb' 0 8 ≠ (0xC3 : Octet)

/-- R132, R133, R137: the receiver commands of the octets between two delimiters. -/
def lineCommands (l : Line) : List Octet → List Instr
  | [] => []
  | o :: os => .betweenOctet l o :: os.map (.dataOctet l) ++ [.closingDelimiter l]

/-- R79: a continuation on line B from the state `u`: the source taken as at a selection and sent under the same grant
after the gap delimiters, or IDLE where there is none. -/
structure ContinuedB (u t : State) : Prop where
  idle : u.sourceB = none → t = { u with txB := .idle }
  slot : ∀ i, u.sourceB = some (.slot i) →
    t = { setAgent .b ((u.agent .b).setSlot i { (u.agent .b).slots[i] with state := .sending }) u with
          txB := .sending (.slot i)
            (List.replicate u.settings.gapDelimiters 0xC3 ++ frameStream (slotOctets u .b i)) }
  frame : ∀ q h, u.sourceB = some (.queue q h) →
    t = { setQueue q
            { u.queue q with frames := (u.queue q).frames.tail, mark := (u.queue q).mark - 1 } u with
          txB := .sending (.frame q h (decide (0 < (u.queue q).mark)) (u.sponsorOf q))
            (List.replicate u.settings.gapDelimiters 0xC3 ++ frameStream (u.store.frameOctets h)) }

/-- R84, R85: a selection of selector A from the state `u`; IDLE where there is no source. -/
structure SelectedA (u t : State) : Prop where
  idle : u.sourceA = none → t = { u with txA := .idle }
  slot : ∀ i, u.sourceA = some (.slot i) →
    t = { setAgent .a ((u.agent .a).setSlot i { (u.agent .a).slots[i] with state := .sending }) u with
          txA := .sending (.slot i) (frameStream (slotOctets u .a i)) }
  frame : ∀ q h, u.sourceA = some (.queue q h) →
    t = { setQueue q
            { u.queue q with frames := (u.queue q).frames.tail, mark := (u.queue q).mark - 1 } u with
          txA := .sending (.frame q h (decide (0 < (u.queue q).mark)) (u.sponsorOf q))
            (frameStream (u.store.frameOctets h)) }

/-- R160, R163: the end of a slot's sending from the state `u`: CACHED if it is its line's cache slot and FREE otherwise, out
of the queued order; the restart due if it held the response of a pending RESTART. -/
structure SlotEnded (l : Line) (i : SlotIx) (u t : State) : Prop where
  slot : (t.agent l).slots[i] =
    if (u.agent l).isCacheSlot i then { (u.agent l).slots[i] with state := .cached } else Slot.blank
  others : ∀ j : SlotIx, j ≠ i → (t.agent l).slots[j] = (u.agent l).slots[j]
  order : (t.agent l).order = (u.agent l).order.filter (· != i)
  cache : (t.agent l).cache = (u.agent l).cache
  otherLine : ∀ l', l' ≠ l → t.agent l' = u.agent l'
  due : ∀ sc d, u.restart = .pending sc l i d → t.restart = .due sc l i
  notDue : (∀ sc d, u.restart ≠ .pending sc l i d) → t.restart = u.restart

/-! ## The evaluation of the notice unit (R194) -/

/-- R192: an unmasked event is pending. -/
def EventUnit.SomePending (u : EventUnit) : Prop := ∃ n : Fin 16, u.mask.getLsbD n.val = true ∧ u.states[n] ≠ .clear

/-- R192: an unmasked event is PENDING_UNREPORTED. -/
def EventUnit.SomeUnreported (u : EventUnit) : Prop :=
  ∃ n : Fin 16, u.mask.getLsbD n.val = true ∧ u.states[n] = .unreported

/-- R194, R197: the notice unit `after` an evaluation of the unit `before`, by the events and mask of `after`; the
repeat timer is started with the notice repeat setting, and 0 leaves it stopped. -/
structure Evaluated (setting : Nat) (before after : EventUnit) : Prop where
  number : after.notice.number = before.notice.number
  unreported : after.SomeUnreported → after.notice.state = .owed ∧ after.notice.timer = none
  nonePending : ¬after.SomePending → after.notice.state = .quiet ∧ after.notice.timer = none
  reportedQuiet : after.SomePending → ¬after.SomeUnreported → before.notice.state = .quiet →
    after.notice.state = .outstanding ∧ after.notice.timer = if setting = 0 then none else some setting
  reportedOther : after.SomePending → ¬after.SomeUnreported → before.notice.state ≠ .quiet →
    after.notice.state = before.notice.state ∧ after.notice.timer = before.notice.timer

/-- R191, R194: a raise: a CLEAR event becomes PENDING_UNREPORTED, with an evaluation, and a pending event leaves the unit
as it is. -/
structure Raised (setting : Nat) (e : Event) (before after : EventUnit) : Prop where
  pending : before.states[e.number] ≠ .clear → after = before
  mask : after.mask = before.mask
  states : before.states[e.number] = .clear → after.states = before.states.set e.number.val .unreported e.number.isLt
  unit : before.states[e.number] = .clear → Evaluated setting before after

end Sys2Proof.Machine
end

