-- ==== Sys2Proof/Certificates/Slice0/Obligations.lean ====
section
/-! DEFINITION. The statements for the provers, from the numbered rules of the spec. Each is a proposition; none is
proved here. `requestInstr`, `Ready`, `Answered`, `Placed`, `Raised`, `Evaluated`, `CutShort` and the invariants are
defined in Sys2Proof/Safety.lean. -/

open Sys2Proof Sys2Proof.Machine

/-! ## The queue of commands -/

/-- A step takes the command at the front of the queue and is that command on the state with the queue's rest; on an
empty queue the block idles. The queue is the model's own (log 1). -/
def Obligations.StepRunsFrontCommand : Prop :=
  (∀ (c : Instr) (rest : List Instr) (s : State),
    step { s with pending := c :: rest } = exec c { s with pending := rest }) ∧
  ∀ s : State, s.pending = [] → step s = .next s

/-- No command of the table faults or is refused, in any state, and none touches the commands that wait (log 1). That an
event which cannot come in a state leaves that state as it is, is read from the rules (log 2). -/
def Obligations.EveryCommandAnswersNextState : Prop :=
  ∀ (c : Instr) (s : State), ∃ t, exec c s = .next t ∧ t.pending = s.pending

/-! ## Reset values, resets, restarts and supplies -/

/-- The values after a power-on with time loss, as the reset rules of the chapters list them. The strap value and the
level of B_GNT (log 11), and what a receiver holds as its most recent bits (log 18), are the model's choice. -/
def Obligations.ResetValuesAsListed : Prop :=
  State.reset.tk =
      { cal := { second := 0, minute := 0, hour := 0, weekday := 0, day := 1, month := 1, year := 0 }
        divider := 0, crystal := .stopped, timeValid := false, generation := 1 } ∧
    State.reset.uptime = 0 ∧
    State.reset.settings =
      { maxFrameLength := 512, reserve := 32, lowWater := 64, outboundDefault := .forward 0, inboundDefault := .forward
        noticeLine := some .a, noticeStation := 0x01, noticeRepeat := 30, grantTimeout := 50, holdOff := 10
        retryLimit := 3, gapDelimiters := 2, remote := .off } ∧
    (∀ l, State.reset.receiver l =
      { state := .seeking, recent := 0, aligned := false, escapePending := false, decoded := 0, held := [], check := 0xFFFF
        reject := none, handle := none }) ∧
    State.reset.store.free.map (·.val) = List.range 512 ∧ State.reset.store.armed = true ∧
    (∀ b : Block, State.reset.record b =
      { line := .a, length := 0, chain := [b], stamp := 0, matched := none, attempts := 0 }) ∧
    (∀ q : QueueIx, State.reset.queue q =
      { frames := [], limit := if q = 0 then 32 else 64, maxAge := 0, fallback := .hold, frozen := false, mark := 0 }) ∧
    (∀ i : EntryIx, State.reset.classifier.bank0[i].octets = [0, 3, 0, 0] ++ List.replicate 13 0 ∧
      State.reset.classifier.bank1[i].octets = [0, 3, 0, 0] ++ List.replicate 13 0) ∧
    State.reset.classifier.active = false ∧ State.reset.classifier.activations = 0 ∧
    (∀ i : WindowIx, State.reset.windows[i].entry.octets = [0x00, 0, 0xFF, 0x80, 0xFF, 0, 1, 0, 0, 0, 0x02] ∧
      State.reset.windows[i].state = { phase := .closed, minutes := 0, budget := 0, opening := 0 }) ∧
    State.reset.txA = .idle ∧ State.reset.txB = .idle ∧ State.reset.bReq = false ∧
    State.reset.grantTimerRuns = false ∧ State.reset.grantTimer = 0 ∧
    State.reset.holdoffTimerRuns = false ∧ State.reset.holdoffTimer = 0 ∧
    State.reset.trunkMode = .running ∧ State.reset.charge = none ∧
    (∀ l, (State.reset.agent l).cache = none ∧ (State.reset.agent l).order = [] ∧
      ∀ i : SlotIx, (State.reset.agent l).slots[i] = { state := .free, content := none, attempts := 0 }) ∧
    State.reset.restart = .normal ∧
    (∀ e : Event, State.reset.events.states[e.number] = if e = .clockStopped then .unreported else .clear) ∧
    State.reset.events.mask = 0x911F ∧
    State.reset.events.notice = { state := .owed, number := 0, timer := none } ∧
    ∀ c : Counter, State.reset.count c = 0

/-- Every invariant of Safety.lean holds at reset. -/
def Obligations.ResetMeetsInvariants : Prop :=
  BlocksSafe State.reset ∧ LengthsSafe State.reset ∧ MemorySafe State.reset ∧ MarksSafe State.reset ∧
    WindowsSafe State.reset ∧ ClockSafe State.reset ∧ State.reset.settings.inRange = true ∧
    EventsSafe State.reset ∧ AgentSafe State.reset

/-- CORE_RESET and POWER_ON_WITH_TIME_LOSS from any state. A core reset keeps the calendar, the divider, the crystal
state and TIME_VALID, increments the restart generation, samples the straps, sends a cancel marker on each line in
SENDING, and leaves every other record as after a power-on; CLOCK_STOPPED is marked only while TIME_VALID is no. A
power-on with time loss leaves the state after reset, with the octets of the blocks, the input B_GNT, the lines'
past octets and the model's own fields as they were; where VBAK alone comes up after there was no supply, the
timekeeping domain starts on it and the core domain stays without power. A core reset of a part without any supply is a
power-on (log 10). That the octets of the blocks are kept (log 12), that a charge not yet taken is dropped (log 31) and
that a receiver then holds zeros (log 18) are the model's choice. After a core reset each line carries its
cancel marker, if any, and then idle fill (R143, R146). -/
def Obligations.CoreResetAndPowerOn : Prop :=
  (∀ (strap : Octet) (s : State), s.supply ≠ .none → ∃ t, exec (.coreReset strap) s = .next t ∧
    t = { State.reset with
          pending := s.pending, draws := t.draws, station := strap, grant := s.grant, sent := t.sent
          tk := { s.tk with generation := s.tk.generation + 1 }
          store := { State.reset.store with mem := s.store.mem }
          events := t.events } ∧
    (s.supply = .main → CutA s t.sent.a ∧ CutB s t.sent.b) ∧ (s.supply ≠ .main → t.sent = s.sent) ∧
    (∀ l k, t.lineOctet l k = (t.sent.get l).getD k 0xC3) ∧
    (s.tk.timeValid = false → t.events = State.reset.events) ∧
    (s.tk.timeValid = true →
      t.events.mask = 0x911F ∧ t.events.notice = { state := .quiet, number := 0, timer := none } ∧
        ∀ n : Fin 16, t.events.states[n] = .clear)) ∧
  (∀ (strap : Octet) (s : State), exec (.powerOnWithTimeLoss (some strap)) s =
    .next { State.reset with
            pending := s.pending, draws := s.draws, station := strap, grant := s.grant, sent := s.sent
            store := { State.reset.store with mem := s.store.mem } }) ∧
  (∀ (strap : Octet) (s : State), s.supply = .none →
    exec (.coreReset strap) s = exec (.powerOnWithTimeLoss (some strap)) s) ∧
  ∀ s : State,
    (s.supply = .none → exec (.powerOnWithTimeLoss none) s =
      .next { s with supply := .backup, tk := { State.reset.tk with generation := 0 } }) ∧
    (s.supply ≠ .none → exec (.powerOnWithTimeLoss none) s = .next s)

/-- RESTART records its scope and response slot, loads the deadline timer with 2 s (log 8) and performs nothing yet;
another scope is answered BAD_VALUE. RESTART_DEADLINE_EXPIRY makes a pending restart due. RESTART_PERFORMANCE in
RESTART_DUE performs it: a scope of FULL as a core reset, a scope of TRAFFIC as a traffic restart at every block,
which keeps the clocks, settings, tables, windows, events and counters. Neither is taken in another restart state (log
2). That the octets of the blocks are kept (log 12), that a charge already sent stands (log 31), that transmitter B's timers,
which stop, hold their values (log 32) and that a receiver then holds zeros as its most recent bits (log 18) are the
model's choice, and how much of a transmission a cancel marker cuts is left free (log 14). -/
def Obligations.RestartIsRecordedDueAndPerformed : Prop :=
  (∀ (l : Line) (src seq x : Octet) (i : SlotIx) (s : State), Ready s ⟨l, src, seq, 0x70, [x]⟩ i →
    ∃ t, exec (.restart l src seq [x]) s = .next t ∧
      (x = 0 → Answered ⟨l, src, seq, 0x70, [x]⟩ i .ok ([0] ++ be16 s.tk.generation)
        { s with restart := .pending .traffic l i 2 } t) ∧
      (x = 1 → Answered ⟨l, src, seq, 0x70, [x]⟩ i .ok ([1] ++ be16 s.tk.generation)
        { s with restart := .pending .full l i 2 } t) ∧
      (1 < x.toNat → Answered ⟨l, src, seq, 0x70, [x]⟩ i .badValue [] s t)) ∧
  (∀ (s : State) (sc : Scope) (l : Line) (i : SlotIx) (d : Nat), s.supply = .main → s.restart = .pending sc l i d →
    exec .restartDeadlineExpiry s = .next { s with restart := .due sc l i }) ∧
  (∀ (strap : Octet) (s : State) (l : Line) (i : SlotIx), s.supply = .main → s.restart = .due .full l i →
    exec (.restartPerformance strap) s = exec (.coreReset strap) s) ∧
  (∀ (strap : Octet) (s : State) (l : Line) (i : SlotIx), s.supply = .main → s.restart = .due .traffic l i →
    ∃ t, exec (.restartPerformance strap) s = .next t ∧
      t = { s with
            rx := State.reset.rx, store := { State.reset.store with mem := s.store.mem }, queues := t.queues
            txA := .idle, txB := .idle, trunkMode := .running, mgmt := t.mgmt, restart := .normal
            sent := t.sent, draws := t.draws } ∧
      (∀ q, t.queue q = { s.queue q with frames := [], frozen := false, mark := 0 }) ∧
      CutA s t.sent.a ∧ CutB s t.sent.b ∧
      ∀ l, (t.agent l).cache = (s.agent l).cache ∧
        (t.agent l).order = (s.agent l).order.filter (fun i => (t.agent l).slots[i].state == .queued) ∧
        ∀ i : SlotIx, (t.agent l).slots[i] =
          match (s.agent l).slots[i].state with
          | .free => (s.agent l).slots[i]
          | .cached => (s.agent l).slots[i]
          | .queued => if (s.agent l).isCacheSlot i then (s.agent l).slots[i] else Slot.blank
          | .sending => if (s.agent l).isCacheSlot i then { (s.agent l).slots[i] with state := .cached } else Slot.blank) ∧
  (∀ s : State, (∀ sc l i d, s.restart ≠ .pending sc l i d) → exec .restartDeadlineExpiry s = .next s) ∧
  ∀ (strap : Octet) (s : State), (∀ sc l i, s.restart ≠ .due sc l i) → exec (.restartPerformance strap) s = .next s

/-- The supplies: main supply lost, then the backup supply. While main supply is absent no event of the core domain is
taken: only the timekeeping domain's, the resets, and the level of B_GNT remain (log 2, log 9). That the records of the
core domain stand as they were, unread, is read from the rules (log 21). -/
def Obligations.SupplyLossStopsCoreDomain : Prop :=
  (∀ s : State, s.supply = .main → exec .mainSupplyLoss s = .next { s with supply := .backup }) ∧
  (∀ s : State, s.supply = .backup → exec .vbakLoss s = .next { s with supply := .none }) ∧
  ∀ (c : Instr) (s : State), s.supply ≠ .main →
    c ∉ [.secondStep, .minuteBoundary, .oscillatorStop, .crystalReturn, .grantPresent, .grantLoss, .vbakLoss] →
    (∀ strap, c ≠ .coreReset strap) → (∀ strap, c ≠ .powerOnWithTimeLoss strap) → exec c s = .next s

/-! ## Invariants that every step keeps -/

/-- R111: each of the 512 blocks stays in exactly one place: the free list, the chain of a frame being received, of a
frame in a queue, or of a frame in flight. -/
def Obligations.StepKeepsEveryBlockInOnePlace : Prop :=
  ∀ s t : State, BlocksSafe s → step s = .next t → BlocksSafe t

/-- R3, R113, R130: chain lengths, frame lengths and decoded counts agree, and stay so. -/
def Obligations.StepKeepsFrameLengths : Prop :=
  ∀ s t : State, BlocksSafe s → s.settings.inRange = true → LengthsSafe s → step s = .next t → LengthsSafe t

/-- R9: a queue's release mark never exceeds its frame count, and EXP and INB have none. -/
def Obligations.StepKeepsReleaseMarks : Prop :=
  ∀ s t : State, MarksSafe s → step s = .next t → MarksSafe t

/-- R23, R24, R37, R38, R41: entries stay within their table, state records agree with them, and while TIME_VALID is no
every window of a powered part is CLOSED. -/
def Obligations.StepKeepsWindows : Prop :=
  ∀ s t : State, WindowsSafe s → step s = .next t → WindowsSafe t

/-- R47, R170, R114, R64: the calendar, the settings, the octets of the blocks and the timers of transmitter B stay within
their tables and form. -/
def Obligations.StepKeepsRanges : Prop :=
  (∀ s t : State, ClockSafe s → step s = .next t → ClockSafe t) ∧
  (∀ s t : State, s.settings.inRange = true → step s = .next t → t.settings.inRange = true) ∧
  (∀ s t : State, s.settings.inRange = true → s.grantTimer ≤ 255 → s.holdoffTimer ≤ 255 → step s = .next t →
    t.grantTimer ≤ 255 ∧ t.holdoffTimer ≤ 255) ∧
  ∀ s t : State, MemorySafe s → step s = .next t → MemorySafe t

/-- R193: the notice unit's state keeps agreeing with the events and the mask. -/
def Obligations.StepKeepsNoticeUnit : Prop :=
  ∀ s t : State, EventsSafe s → step s = .next t → EventsSafe t

/-- R151, R152, R160, R162: slots, queued orders, caches, in-flight records and the restart state keep agreeing. -/
def Obligations.StepKeepsSlotsAndCaches : Prop :=
  ∀ s t : State, AgentSafe s → step s = .next t → AgentSafe t

/-- R2, R3, R20: where the invariants hold, no handle stands twice among the frames received, queued and in flight, and
the blocks held by a queue are the blocks of its frames' chains, from 1 to 16 for each. -/
def Obligations.HandlesHeldOnceAndBlocksCounted : Prop :=
  (∀ s : State, BlocksSafe s → s.framesHeld.Nodup) ∧
  ∀ (s : State) (q : QueueIx), LengthsSafe s →
    s.blocksHeld (s.queue q) = ((s.queue q).frames.map fun h => (s.record h).chain.length).sum ∧
      (s.queue q).count ≤ s.blocksHeld (s.queue q) ∧ s.blocksHeld (s.queue q) ≤ 16 * (s.queue q).count

/-! ## Octet layouts and the line stream -/

/-- R172, R209: WRITE SETTINGS reads exactly the settings records within their ranges, from the octets that READ SETTINGS
returns. -/
def Obligations.SettingsOctetsRoundTrip : Prop :=
  (∀ t : Settings, t.inRange = true → Settings.read t.remote t.octets = some t) ∧
  ∀ (remote : Remote) (ps : List Octet) (t : Settings), Settings.read remote ps = some t →
    t.inRange = true ∧ t.remote = remote ∧ t.octets = ps

/-- R91, R177, R208, R209: a rule entry is read back from its octets, an entry read is within the table, and its octets
are those received with the reserved bits and the fields of absent parts as 0. -/
def Obligations.RuleEntryOctetsRoundTrip : Prop :=
  (∀ e : RuleEntry, e.inRange = true → RuleEntry.read e.octets = some e) ∧
  ∀ (fl di ac qu dv dm sv sm kv km po pv pm l1 l2 h1 h2 : Octet) (e : RuleEntry),
    RuleEntry.read [fl, di, ac, qu, dv, dm, sv, sm, kv, km, po, pv, pm, l1, l2, h1, h2] = some e →
      e.inRange = true ∧
      e.octets = [fl &&& 0xF0, di, ac, qu, dv, dm, sv, sm, kv, km] ++
        (if fl.getLsbD 5 then [po, pv, pm] else [0, 0, 0]) ++
        (if fl.getLsbD 4 then [l1, l2, h1, h2] else [0, 0, 0, 0])

/-- R23, R183, R208, R209: the same of a window entry; a weekday octet with the bit of ANY is returned as 0x80. -/
def Obligations.WindowEntryOctetsRoundTrip : Prop :=
  (∀ e : WindowEntry, e.inRange = true → WindowEntry.read e.octets = some e) ∧
  ∀ (en mi ho wd da d1 d2 b1 b2 b3 qs : Octet) (e : WindowEntry),
    WindowEntry.read [en, mi, ho, wd, da, d1, d2, b1, b2, b3, qs] = some e →
      e.inRange = true ∧
      e.octets = [en &&& 0x80, mi, ho, if wd.getLsbD 7 then 0x80 else wd, da, d1, d2, b1, b2, b3, qs &&& 0x7E]

/-- R129, R142: octets escaped as a transmitter sends them are taken by a receiver in IN_FRAME as the data octets they
were. -/
def Obligations.EscapedOctetsAreDecoded : Prop :=
  ∀ (l : Line) (os : List Octet) (s : State), (s.receiver l).escapePending = false →
    (os.flatMap escapeOctet).foldl (fun s o => takeInFrame l o s) s = os.foldl (fun s o => takeData l o s) s

/-- R114, R117, R129 to R138, R142: a frame that a transmitter sends, taken octet by octet by a receiver in BETWEEN with
room in the store, is received whole. Its commands end in the frame-end event of a frame whose blocks hold exactly its
octets and whose record is complete. -/
def Obligations.FrameSentIsReceivedWhole : Prop :=
  ∀ (l : Line) (os body : List Octet) (s : State),
    frameStream os = [0xC3] ++ body ++ [0xC3] → 3 ≤ os.length → os.length ≤ s.settings.maxFrameLength →
    s.settings.maxFrameLength ≤ 1023 → s.supply = .main → (s.receiver l).state = .between → BlocksSafe s →
    MemorySafe s → (if l = .a then s.settings.reserve else 0) + chainLength os.length ≤ s.freeCount →
    ∃ (h : Block) (u : State),
      s.store.free.head? = some h ∧ runCommands (lineCommands l body) s = .next (frameEnd l h u) ∧
      u.store.frameOctets h = os ∧
      u.record h =
        { line := l, length := os.length, chain := s.store.free.take (chainLength os.length), stamp := s.uptime
          matched := none, attempts := 0 } ∧
      (u.receiver l).state = .between ∧ u.store.free = s.store.free.drop (chainLength os.length) ∧
      Counted (.line l .goodFrames) 1 s u ∧ OthersUncounted [.line l .goodFrames] s u

/-! ## Requests -/

/-- R150, R158, R168, R169, R209: every request that passes the checks before execution is answered in the slot found, cached
and counted, whatever its status. A status other than OK leaves its owner unchanged and carries no data, and a
read-class request of any status leaves every owner unchanged. A code outside the catalogue (UNKNOWN_REQUEST_CODE), or
parameters of another length than the code's, is answered BAD_REQUEST. -/
def Obligations.EveryReadyRequestIsAnswered : Prop :=
  ∀ (r : Request) (i : SlotIx) (s : State), Ready s r i →
    ∃ (t u : State) (st : Status) (data : List Octet), exec (requestInstr r) s = .next t ∧ Answered r i st data u t ∧
      u.mgmt = s.mgmt ∧ (st ≠ .ok → u = s ∧ data = []) ∧ (requestClass r.code r.params = .read → u = s) ∧
      (paramLength r.code ≠ some r.params.length ↔ st = .badRequest)

/-- R155, R156, R157: a duplicate is counted and only its CACHED slot is queued again; a request without a FREE slot is
an overrun; a request while a restart is pending is answered BUSY. -/
def Obligations.DuplicateOverrunAndBusy : Prop :=
  (∀ (r : Request) (c : Cache) (s : State), Authorised s r → (s.agent r.line).cache = some c → c.seq = r.seq →
    c.code = r.code →
    ∃ t, exec (requestInstr r) s = .next t ∧ t = { s with mgmt := t.mgmt, counters := t.counters } ∧
      Counted (.mgmt .duplicates) 1 s t ∧ OthersUncounted [.mgmt .duplicates] s t ∧
      (∀ l, l ≠ r.line → t.agent l = s.agent l) ∧
      ((s.agent r.line).slots[c.slot].state ≠ .cached → t.mgmt = s.mgmt) ∧
      ((s.agent r.line).slots[c.slot].state = .cached →
        (t.agent r.line).cache = some c ∧
        (t.agent r.line).order = (s.agent r.line).order.filter (· != c.slot) ++ [c.slot] ∧
        (t.agent r.line).slots[c.slot] = { (s.agent r.line).slots[c.slot] with state := .queued, attempts := 0 } ∧
        ∀ j : SlotIx, j ≠ c.slot → (t.agent r.line).slots[j] = (s.agent r.line).slots[j])) ∧
  (∀ (r : Request) (s : State), Authorised s r → (s.agent r.line).isDuplicate r.seq r.code = false →
    (∀ i : SlotIx, (s.agent r.line).slots[i].state ≠ .free) →
    ∃ t, exec (requestInstr r) s = .next t ∧ t = { s with counters := t.counters } ∧
      Counted (.mgmt .overruns) 1 s t ∧ OthersUncounted [.mgmt .overruns] s t) ∧
  ∀ (r : Request) (i : SlotIx) (s : State), Authorised s r → (s.agent r.line).isDuplicate r.seq r.code = false →
    (s.agent r.line).slots[i].state = .free → (∀ j : SlotIx, j < i → (s.agent r.line).slots[j].state ≠ .free) →
    s.restart ≠ .normal →
    ∃ t, exec (requestInstr r) s = .next t ∧ t = { s with mgmt := t.mgmt } ∧ Placed r i .busy [] s t

/-- R154: the authority of requests from line B: discarded under OFF; under READ_ONLY all but read-class, and under FULL
SET REMOTE ACCESS, answered DENIED in the lowest-numbered FREE slot or counted as an overrun. Each is counted, raises
ACCESS_DENIED, and has no other effect. R90, R145: an unmanaged part takes no request (log 4). Every other request
proceeds: all from line A, those of the read class under READ_ONLY, and all but SET REMOTE ACCESS under FULL. The class
of every code (R169, R209), and of READ COUNTERS by its fourth octet (log 28). -/
def Obligations.LineBAuthority : Prop :=
  (∀ (r : Request) (s : State), s.supply = .main → s.managed = true → r.line = .b → s.settings.remote = .off →
    ∃ t, exec (requestInstr r) s = .next t ∧ t = { s with counters := t.counters, events := t.events } ∧
      Counted (.mgmt .denied) 1 s t ∧ OthersUncounted [.mgmt .denied] s t ∧
      Raised s.settings.noticeRepeat .accessDenied s.events t.events) ∧
  (∀ (r : Request) (s : State), s.supply = .main → s.managed = true → r.line = .b →
    ((s.settings.remote = .readOnly ∧ requestClass r.code r.params ≠ .read) ∨
      (s.settings.remote = .full ∧ r.code = 0x04)) →
    ∃ t, exec (requestInstr r) s = .next t ∧
      t = { s with mgmt := t.mgmt, counters := t.counters, events := t.events } ∧
      Counted (.mgmt .denied) 1 s t ∧ Raised s.settings.noticeRepeat .accessDenied s.events t.events ∧
      (∀ i : SlotIx, (s.agent .b).slots[i].state = .free →
        (∀ j : SlotIx, j < i → (s.agent .b).slots[j].state ≠ .free) →
        Placed r i .denied [] s t ∧ OthersUncounted [.mgmt .denied] s t) ∧
      ((∀ i : SlotIx, (s.agent .b).slots[i].state ≠ .free) →
        t.mgmt = s.mgmt ∧ Counted (.mgmt .overruns) 1 s t ∧
          OthersUncounted [.mgmt .denied, .mgmt .overruns] s t)) ∧
  (∀ (r : Request) (s : State), s.supply = .main → (s.station = 0x00 ∨ s.station = 0xFF) →
    exec (requestInstr r) s = .next s) ∧
  (∀ (r : Request) (s : State), Authorised s r ↔
    s.supply = .main ∧ 0x01 ≤ s.station.toNat ∧ s.station.toNat ≤ 0xFE ∧
      (r.line = .a ∨ (s.settings.remote = .readOnly ∧ requestClass r.code r.params = .read) ∨
        (s.settings.remote = .full ∧ r.code ≠ 0x04))) ∧
  ∀ (code : Octet) (ps : List Octet),
    let writeClass : Prop :=
      code ∈ ([0x03, 0x11, 0x22, 0x23, 0x24, 0x31, 0x32, 0x33, 0x34, 0x35, 0x42, 0x50, 0x51, 0x61, 0x62, 0x70] :
        List Octet) ∨ (code = 0x63 ∧ ps[3]? = some 1)
    (requestClass code ps = .remoteAccess ↔ code = 0x04) ∧ (requestClass code ps = .write ↔ writeClass) ∧
      (requestClass code ps = .read ↔ code ≠ 0x04 ∧ ¬writeClass)

/-- R171, R174, R175, R176, R185: the reads without parameters report their records and change nothing. -/
def Obligations.ReadsWithoutParametersReport : Prop :=
  ∀ (l : Line) (src seq : Octet) (i : SlotIx) (s : State),
    (Ready s ⟨l, src, seq, 0x01, []⟩ i → ∃ t, exec (.identify l src seq []) s = .next t ∧
      Answered ⟨l, src, seq, 0x01, []⟩ i .ok
        ([0x3A, 0x61, 0x02, 0x16, 1, s.station, 0x02, 0x00, 48, 24] ++ be16 s.tk.generation) s t) ∧
    (Ready s ⟨l, src, seq, 0x02, []⟩ i → ∃ t, exec (.readSettings l src seq []) s = .next t ∧
      Answered ⟨l, src, seq, 0x02, []⟩ i .ok (s.settings.octets ++ [s.settings.remote.code]) s t) ∧
    (Ready s ⟨l, src, seq, 0x10, []⟩ i → ∃ t, exec (.readTime l src seq []) s = .next t ∧
      Answered ⟨l, src, seq, 0x10, []⟩ i .ok
        ([octet s.tk.cal.second, octet s.tk.cal.minute, octet s.tk.cal.hour, octet s.tk.cal.weekday,
            octet s.tk.cal.day, octet s.tk.cal.month, octet s.tk.cal.year,
            (if s.tk.timeValid then 0x80 else 0) + (if s.tk.crystal = .running then 0x40 else 0)] ++
          be32 s.uptime ++ be16 s.tk.generation) s t) ∧
    (Ready s ⟨l, src, seq, 0x21, []⟩ i → ∃ t, exec (.readBankState l src seq []) s = .next t ∧
      Answered ⟨l, src, seq, 0x21, []⟩ i .ok
        ([if s.classifier.active then 1 else 0] ++ be16 s.classifier.activations ++
          [octet (s.classifier.bank0.toList.countP (·.valid)), octet (s.classifier.bank1.toList.countP (·.valid))])
        s t) ∧
    (Ready s ⟨l, src, seq, 0x41, []⟩ i → ∃ t, exec (.readWindowState l src seq []) s = .next t ∧
      Answered ⟨l, src, seq, 0x41, []⟩ i .ok
        ((List.finRange 24).flatMap fun w =>
          [s.windows[w].state.phase.code] ++ nat16 s.windows[w].state.minutes ++ nat24 s.windows[w].state.budget ++
            be16 s.windows[w].state.opening) s t) ∧
    (Ready s ⟨l, src, seq, 0x60, []⟩ i → ∃ t, exec (.readEvents l src seq []) s = .next t ∧
      Answered ⟨l, src, seq, 0x60, []⟩ i .ok
        ((List.finRange 16).map (fun n => s.events.states[n].code) ++ be16 s.events.mask ++
          [s.events.notice.state.code, s.events.notice.number]) s t)

/-- R20, R104, R176, R179, R182: the reads of one table position report it and change nothing, and a position outside its
table is answered BAD_INDEX. -/
def Obligations.ReadsOfOnePositionReport : Prop :=
  ∀ (l : Line) (src seq x y : Octet) (i : SlotIx) (s : State),
    (Ready s ⟨l, src, seq, 0x20, [x, y]⟩ i → ∃ t, exec (.readRule l src seq [x, y]) s = .next t ∧
      (∀ e : EntryIx, x = 0 → y = octet e.val → Answered ⟨l, src, seq, 0x20, [x, y]⟩ i .ok
        ([if s.classifier.active then 0 else 1] ++ s.classifier.bank0[e].octets) s t) ∧
      (∀ e : EntryIx, x = 1 → y = octet e.val → Answered ⟨l, src, seq, 0x20, [x, y]⟩ i .ok
        ([if s.classifier.active then 1 else 0] ++ s.classifier.bank1[e].octets) s t) ∧
      (1 < x.toNat ∨ 47 < y.toNat → Answered ⟨l, src, seq, 0x20, [x, y]⟩ i .badIndex [] s t)) ∧
    (Ready s ⟨l, src, seq, 0x30, [x]⟩ i → ∃ t, exec (.readQueue l src seq [x]) s = .next t ∧
      (∀ q : QueueIx, x = octet q.val → Answered ⟨l, src, seq, 0x30, [x]⟩ i .ok
        ([octet (s.queue q).limit] ++ nat16 (s.queue q).maxAge ++
          [if isScheduled q = true ∧ (s.queue q).fallback = .release then 1 else 0] ++
          nat16 (s.queue q).frames.length ++ nat16 (s.blocksHeld (s.queue q)) ++ nat16 (s.queue q).mark ++
          [if (s.queue q).frozen then 1 else 0]) s t) ∧
      (7 < x.toNat → Answered ⟨l, src, seq, 0x30, [x]⟩ i .badIndex [] s t)) ∧
    (Ready s ⟨l, src, seq, 0x40, [x]⟩ i → ∃ t, exec (.readWindow l src seq [x]) s = .next t ∧
      (∀ w : WindowIx, x = octet w.val →
        Answered ⟨l, src, seq, 0x40, [x]⟩ i .ok s.windows[w].entry.octets s t) ∧
      (23 < x.toNat → Answered ⟨l, src, seq, 0x40, [x]⟩ i .badIndex [] s t))

/-- R187, R205: READ COUNTERS reports the counters named and, with the clear flag, sets exactly those to 0 after their
values are read; a group or index outside its table is answered BAD_INDEX, then a count or flag out of range
BAD_VALUE. -/
def Obligations.ReadCountersReportsAndClears : Prop :=
  ∀ (l : Line) (src seq g first count flag : Octet) (i : SlotIx) (s : State),
    Ready s ⟨l, src, seq, 0x63, [g, first, count, flag]⟩ i →
    ∃ t, exec (.readCounters l src seq [g, first, count, flag]) s = .next t ∧
      (4 < g.toNat → Answered ⟨l, src, seq, 0x63, [g, first, count, flag]⟩ i .badIndex [] s t) ∧
      ∀ grp : Fin 5, g = octet grp.val →
        (groupSize grp ≤ first.toNat ∨ groupSize grp < first.toNat + count.toNat →
          Answered ⟨l, src, seq, 0x63, [g, first, count, flag]⟩ i .badIndex [] s t) ∧
        (first.toNat < groupSize grp → first.toNat + count.toNat ≤ groupSize grp →
          ((count = 0 ∨ 48 < count.toNat ∨ 1 < flag.toNat) →
            Answered ⟨l, src, seq, 0x63, [g, first, count, flag]⟩ i .badValue [] s t) ∧
          (count ≠ 0 → count.toNat ≤ 48 → flag.toNat ≤ 1 →
            Answered ⟨l, src, seq, 0x63, [g, first, count, flag]⟩ i .ok
              ([g, first, count] ++ (List.range count.toNat).flatMap fun k =>
                be32 (s.counters.toList.getD (groupBase grp + first.toNat + k) 0))
              { s with counters := tabulate 121 fun k =>
                  if flag = 1 ∧ groupBase grp + first.toNat ≤ k.val ∧
                    k.val < groupBase grp + first.toNat + count.toNat then 0 else s.counters[k] } t))

/-- R172, R173: WRITE SETTINGS replaces the twelve fields at once and keeps REMOTE, or changes none of them; SET REMOTE
ACCESS writes REMOTE alone. -/
def Obligations.SettingsAreWrittenWhole : Prop :=
  ∀ (l : Line) (src seq x : Octet) (ps : List Octet) (i : SlotIx) (s : State),
    (Ready s ⟨l, src, seq, 0x03, ps⟩ i → ps.length = 13 → ∃ t, exec (.writeSettings l src seq ps) s = .next t ∧
      (∀ n : Settings, n.inRange = true → n.remote = s.settings.remote → ps = n.octets →
        Answered ⟨l, src, seq, 0x03, ps⟩ i .ok (ps ++ [s.settings.remote.code]) { s with settings := n } t) ∧
      ((∀ n : Settings, n.inRange = true → ps ≠ n.octets) →
        Answered ⟨l, src, seq, 0x03, ps⟩ i .badValue [] s t)) ∧
    (Ready s ⟨l, src, seq, 0x04, [x]⟩ i → ∃ t, exec (.setRemoteAccess l src seq [x]) s = .next t ∧
      (∀ v : Remote, x = v.code →
        Answered ⟨l, src, seq, 0x04, [x]⟩ i .ok [x] { s with settings := { s.settings with remote := v } } t) ∧
      (2 < x.toNat → Answered ⟨l, src, seq, 0x04, [x]⟩ i .badValue [] s t))

/-- R53, R54: SET TIME checks its values, then the crystal; it then loads the calendar, zeroes the divider, makes
TIME_VALID yes and raises TIME_SET, with no window, uptime or generation changed. -/
def Obligations.SetTimeChecksThenLoads : Prop :=
  ∀ (l : Line) (src seq se mi ho wd da mo ye : Octet) (i : SlotIx) (s : State),
    Ready s ⟨l, src, seq, 0x11, [se, mi, ho, wd, da, mo, ye]⟩ i →
    ∃ t, exec (.setTime l src seq [se, mi, ho, wd, da, mo, ye]) s = .next t ∧
      let valuesOk : Prop :=
        se.toNat ≤ 59 ∧ mi.toNat ≤ 59 ∧ ho.toNat ≤ 23 ∧ wd.toNat ≤ 6 ∧ ye.toNat ≤ 99 ∧ 1 ≤ mo.toNat ∧
          mo.toNat ≤ 12 ∧ 1 ≤ da.toNat ∧
          da.toNat ≤ [31, if ye.toNat % 4 = 0 then 29 else 28, 31, 30, 31, 30, 31, 31, 30, 31, 30, 31].getD
            (mo.toNat - 1) 0
      (¬valuesOk → Answered ⟨l, src, seq, 0x11, [se, mi, ho, wd, da, mo, ye]⟩ i .badValue [] s t) ∧
      (valuesOk → s.tk.crystal = .stopped →
        Answered ⟨l, src, seq, 0x11, [se, mi, ho, wd, da, mo, ye]⟩ i .notRunning [] s t) ∧
      (valuesOk → s.tk.crystal = .running → ∃ u,
        Answered ⟨l, src, seq, 0x11, [se, mi, ho, wd, da, mo, ye]⟩ i .ok
          ([se, mi, ho, wd, da, mo, ye, 0xC0] ++ be32 s.uptime ++ be16 s.tk.generation) u t ∧
        u = { s with
              tk := { s.tk with
                      cal := { second := se.toNat, minute := mi.toNat, hour := ho.toNat, weekday := wd.toNat
                               day := da.toNat, month := mo.toNat, year := ye.toNat }
                      divider := 0, timeValid := true }
              events := u.events } ∧
        Raised s.settings.noticeRepeat .timeSet s.events u.events)

/-- R102, R103, R177, R178: WRITE RULE stores an entry in the standby bank and CLEAR STANDBY clears all of it; both report
the bank and leave the active bank, and so every classification, as it was. -/
def Obligations.StandbyEditsLeaveActiveBank : Prop :=
  ∀ (l : Line) (src seq x : Octet) (es : List Octet) (i : SlotIx) (s : State),
    (Ready s ⟨l, src, seq, 0x22, x :: es⟩ i → es.length = 17 →
      ∃ t, exec (.writeRule l src seq (x :: es)) s = .next t ∧
      (47 < x.toNat → Answered ⟨l, src, seq, 0x22, x :: es⟩ i .badIndex [] s t) ∧
      (x.toNat ≤ 47 → RuleEntry.read es = none → Answered ⟨l, src, seq, 0x22, x :: es⟩ i .badValue [] s t) ∧
      ∀ (e : RuleEntry) (ix : EntryIx), x = octet ix.val → RuleEntry.read es = some e →
        (s.classifier.active = false → Answered ⟨l, src, seq, 0x22, x :: es⟩ i .ok [1]
          { s with classifier :=
            { s.classifier with bank1 := s.classifier.bank1.set ix.val e ix.isLt } } t) ∧
        (s.classifier.active = true → Answered ⟨l, src, seq, 0x22, x :: es⟩ i .ok [0]
          { s with classifier :=
            { s.classifier with bank0 := s.classifier.bank0.set ix.val e ix.isLt } } t) ∧
        ∀ (line : Line) (os : List Octet), t.classifier.decide line os = s.classifier.decide line os) ∧
    (Ready s ⟨l, src, seq, 0x23, []⟩ i → ∃ t, exec (.clearStandby l src seq []) s = .next t ∧
      (s.classifier.active = false → Answered ⟨l, src, seq, 0x23, []⟩ i .ok [1]
        { s with classifier := { s.classifier with bank1 := State.reset.classifier.bank1 } } t) ∧
      (s.classifier.active = true → Answered ⟨l, src, seq, 0x23, []⟩ i .ok [0]
        { s with classifier := { s.classifier with bank0 := State.reset.classifier.bank0 } } t) ∧
      ∀ (line : Line) (os : List Octet), t.classifier.decide line os = s.classifier.decide line os)

/-- R105, R106, R178: ACTIVATE swaps the banks, counts, zeroes the RULE counters, raises BANK_ACTIVATED, and with the copy
flag makes the new standby bank a replica of the new active bank. -/
def Obligations.ActivateSwapsBanks : Prop :=
  ∀ (l : Line) (src seq x : Octet) (i : SlotIx) (s : State), Ready s ⟨l, src, seq, 0x24, [x]⟩ i →
    ∃ t, exec (.activate l src seq [x]) s = .next t ∧
      (1 < x.toNat → Answered ⟨l, src, seq, 0x24, [x]⟩ i .badValue [] s t) ∧
      (x.toNat ≤ 1 → ∃ u,
        Answered ⟨l, src, seq, 0x24, [x]⟩ i .ok
          ([if s.classifier.active then 0 else 1] ++ be16 (s.classifier.activations + 1)) u t ∧
        u = { s with
              classifier :=
                { active := !s.classifier.active
                  activations := s.classifier.activations + 1
                  bank0 := if x = 1 ∧ s.classifier.active = false then s.classifier.bank1 else s.classifier.bank0
                  bank1 := if x = 1 ∧ s.classifier.active = true then s.classifier.bank0 else s.classifier.bank1 }
              counters := u.counters, events := u.events } ∧
        (∀ k : Fin 121, u.counters[k] = if 64 ≤ k.val ∧ k.val < 114 then 0 else s.counters[k]) ∧
        Raised s.settings.noticeRepeat .bankActivated s.events u.events)

/-- R17, R180: WRITE QUEUE replaces limit, max age and, for S1 to S6, fallback, and reports the queue; a limit of 0, or
for S1 to S6 a fallback other than HOLD or RELEASE, is answered BAD_VALUE. -/
def Obligations.WriteQueueReplacesSettings : Prop :=
  ∀ (l : Line) (src seq x li a1 a2 fb : Octet) (i : SlotIx) (s : State),
    Ready s ⟨l, src, seq, 0x31, [x, li, a1, a2, fb]⟩ i →
    ∃ t, exec (.writeQueue l src seq [x, li, a1, a2, fb]) s = .next t ∧
      (7 < x.toNat → Answered ⟨l, src, seq, 0x31, [x, li, a1, a2, fb]⟩ i .badIndex [] s t) ∧
      ∀ q : QueueIx, x = octet q.val →
        ((li = 0 ∨ (1 ≤ q.val ∧ q.val ≤ 6 ∧ 1 < fb.toNat)) →
          Answered ⟨l, src, seq, 0x31, [x, li, a1, a2, fb]⟩ i .badValue [] s t) ∧
        (li ≠ 0 → (1 ≤ q.val → q.val ≤ 6 → fb.toNat ≤ 1) →
          Answered ⟨l, src, seq, 0x31, [x, li, a1, a2, fb]⟩ i .ok
            ([li, a1, a2, if 1 ≤ q.val ∧ q.val ≤ 6 then fb else 0] ++ nat16 (s.queue q).frames.length ++
              nat16 (s.blocksHeld (s.queue q)) ++ nat16 (s.queue q).mark ++ [if (s.queue q).frozen then 1 else 0])
            (setQueue q
              { s.queue q with
                limit := li.toNat
                maxAge := 256 * a1.toNat + a2.toNat
                fallback :=
                  if 1 ≤ q.val ∧ q.val ≤ 6 then (if fb = 1 then .release else .hold) else (s.queue q).fallback } s) t)

/-- R10, R13, R14, R15, R181: the queue commands. FREEZE and RESUME write the frozen flag; RELEASE sets the mark of S1 to
S6 to the frame count; FLUSH empties the queue, appends its chains head to tail to the free list, re-arms STORE_LOW
where the free count passes low-water plus 32 (R124), counts the frames and raises nothing. That a flush of an empty
queue makes no re-arming test is read from the rules (log 16). -/
def Obligations.QueueCommandsAct : Prop :=
  ∀ (l : Line) (src seq x : Octet) (i : SlotIx) (s : State),
    (Ready s ⟨l, src, seq, 0x32, [x]⟩ i → ∃ t, exec (.freezeQueue l src seq [x]) s = .next t ∧
      (7 < x.toNat → Answered ⟨l, src, seq, 0x32, [x]⟩ i .badIndex [] s t) ∧
      ∀ q : QueueIx, x = octet q.val → Answered ⟨l, src, seq, 0x32, [x]⟩ i .ok
        (nat16 (s.queue q).frames.length ++ nat16 (s.queue q).mark ++ [1])
        (setQueue q { s.queue q with frozen := true } s) t) ∧
    (Ready s ⟨l, src, seq, 0x33, [x]⟩ i → ∃ t, exec (.resumeQueue l src seq [x]) s = .next t ∧
      (7 < x.toNat → Answered ⟨l, src, seq, 0x33, [x]⟩ i .badIndex [] s t) ∧
      ∀ q : QueueIx, x = octet q.val → Answered ⟨l, src, seq, 0x33, [x]⟩ i .ok
        (nat16 (s.queue q).frames.length ++ nat16 (s.queue q).mark ++ [0])
        (setQueue q { s.queue q with frozen := false } s) t) ∧
    (Ready s ⟨l, src, seq, 0x35, [x]⟩ i → ∃ t, exec (.releaseQueue l src seq [x]) s = .next t ∧
      (7 < x.toNat → Answered ⟨l, src, seq, 0x35, [x]⟩ i .badIndex [] s t) ∧
      ∀ q : QueueIx, x = octet q.val →
        (1 ≤ q.val → q.val ≤ 6 → Answered ⟨l, src, seq, 0x35, [x]⟩ i .ok
          (nat16 (s.queue q).frames.length ++ nat16 (s.queue q).frames.length ++
            [if (s.queue q).frozen then 1 else 0])
          (setQueue q { s.queue q with mark := (s.queue q).frames.length } s) t) ∧
        (q.val = 0 ∨ q.val = 7 → Answered ⟨l, src, seq, 0x35, [x]⟩ i .ok
          (nat16 (s.queue q).frames.length ++ nat16 (s.queue q).mark ++ [if (s.queue q).frozen then 1 else 0])
          s t)) ∧
    (Ready s ⟨l, src, seq, 0x34, [x]⟩ i → ∃ t, exec (.flushQueue l src seq [x]) s = .next t ∧
      (7 < x.toNat → Answered ⟨l, src, seq, 0x34, [x]⟩ i .badIndex [] s t) ∧
      ∀ q : QueueIx, x = octet q.val → ∃ u,
        Answered ⟨l, src, seq, 0x34, [x]⟩ i .ok
          (nat16 (s.queue q).frames.length ++ [0, 0, 0, 0, if (s.queue q).frozen then 1 else 0]) u t ∧
        u = { setQueue q { s.queue q with frames := [], mark := 0 } s with
              store :=
                { s.store with
                  free := s.store.free ++ (s.queue q).frames.flatMap fun h => (s.record h).chain
                  armed := if (s.queue q).frames = [] then s.store.armed
                    else s.armedAfter ((s.queue q).frames.flatMap fun h => (s.record h).chain).length }
              counters := u.counters } ∧
        Counted (.queue q .flushed) (s.queue q).frames.length s u ∧ OthersUncounted [.queue q .flushed] s u)

/-- R39, R40, R183: WRITE WINDOW closes an OPEN or SPENT window, raising WINDOW_CLOSED, keeps its budget and instance, and
stores the entry; a bad index or entry changes nothing. -/
def Obligations.WriteWindowClosesThenStores : Prop :=
  ∀ (l : Line) (src seq x : Octet) (es : List Octet) (i : SlotIx) (s : State),
    Ready s ⟨l, src, seq, 0x42, x :: es⟩ i → es.length = 11 →
    ∃ t, exec (.writeWindow l src seq (x :: es)) s = .next t ∧
      (23 < x.toNat → Answered ⟨l, src, seq, 0x42, x :: es⟩ i .badIndex [] s t) ∧
      (x.toNat ≤ 23 → WindowEntry.read es = none → Answered ⟨l, src, seq, 0x42, x :: es⟩ i .badValue [] s t) ∧
      ∀ (e : WindowEntry) (w : WindowIx), x = octet w.val → WindowEntry.read es = some e →
        (s.windows[w].state.phase = .closed →
          Answered ⟨l, src, seq, 0x42, x :: es⟩ i .ok s.windows[w].state.octets
            { s with windows := s.windows.set w.val { entry := e, state := s.windows[w].state } w.isLt } t) ∧
        (s.windows[w].state.phase ≠ .closed → ∃ u,
          Answered ⟨l, src, seq, 0x42, x :: es⟩ i .ok
            ([0, 0, 0] ++ nat24 s.windows[w].state.budget ++ be16 s.windows[w].state.opening) u t ∧
          u = { s with
                windows := s.windows.set w.val
                  { entry := e
                    state := { phase := .closed, minutes := 0, budget := s.windows[w].state.budget
                               opening := s.windows[w].state.opening } } w.isLt
                events := u.events } ∧
          Raised s.settings.noticeRepeat .windowClosed s.events u.events)

/-- R7, R81, R82, R184: STOP TRUNK returns a data frame of transmitter B to the head of its queue, its mark given back and
its attempt count unchanged, with a cancel marker from SENDING (log 14), and leaves everything else in flight; RESTART TRUNK
writes the mode alone. That the grant timer, which stops, holds its value is the model's choice (log 32). -/
def Obligations.TrunkModeCommands : Prop :=
  ∀ (l : Line) (src seq : Octet) (i : SlotIx) (s : State),
    (Ready s ⟨l, src, seq, 0x50, []⟩ i → ∃ t, exec (.stopTrunk l src seq []) s = .next t ∧
      ((∀ f, s.txB.framesHeld ≠ [f]) → Answered ⟨l, src, seq, 0x50, []⟩ i .ok [1, s.txB.code]
        { s with trunkMode := .stopped } t) ∧
      ∀ (q : QueueIx) (h : Block) (marked : Bool) (sponsor : Option Sponsor),
        let returned : State := setQueue q
          { s.queue q with
            frames := h :: (s.queue q).frames
            mark := (s.queue q).mark + if marked then 1 else 0 } { s with trunkMode := .stopped, txB := .idle }
        (s.txB = .requesting (.frame q h marked sponsor) →
          Answered ⟨l, src, seq, 0x50, []⟩ i .ok [1, 0] returned t) ∧
        (∀ stream, s.txB = .sending (.frame q h marked sponsor) stream →
          ∃ u, Answered ⟨l, src, seq, 0x50, []⟩ i .ok [1, 0] u t ∧
            u = { returned with sent := u.sent, draws := u.draws } ∧ u.sent.a = s.sent.a ∧
            CutShort stream u.sent.b)) ∧
    (Ready s ⟨l, src, seq, 0x51, []⟩ i → ∃ t, exec (.restartTrunk l src seq []) s = .next t ∧
      Answered ⟨l, src, seq, 0x51, []⟩ i .ok [0, s.txB.code] { s with trunkMode := .running } t)

/-- R186, R200, R202: ACK EVENTS clears the named events that are PENDING_REPORTED and WRITE EVENT MASK replaces the mask;
each evaluates the notice unit again and reports what it leaves. -/
def Obligations.AcknowledgeAndMask : Prop :=
  ∀ (l : Line) (src seq hi lo : Octet) (i : SlotIx) (s : State),
    (Ready s ⟨l, src, seq, 0x61, [hi, lo]⟩ i → ∃ t u, exec (.ackEvents l src seq [hi, lo]) s = .next t ∧
      Answered ⟨l, src, seq, 0x61, [hi, lo]⟩ i .ok
        ((List.finRange 16).map (fun n => u.events.states[n].code) ++ [u.events.notice.state.code]) u t ∧
      u = { s with events := u.events } ∧ u.events.mask = s.events.mask ∧
      (∀ n : Fin 16, u.events.states[n] =
        if (hi ++ lo).getLsbD n.val = true ∧ s.events.states[n] = .reported then .clear else s.events.states[n]) ∧
      Evaluated s.settings.noticeRepeat s.events u.events) ∧
    (Ready s ⟨l, src, seq, 0x62, [hi, lo]⟩ i → ∃ t u, exec (.writeEventMask l src seq [hi, lo]) s = .next t ∧
      Answered ⟨l, src, seq, 0x62, [hi, lo]⟩ i .ok [hi, lo, u.events.notice.state.code] u t ∧
      u = { s with events := u.events } ∧ u.events.mask = hi ++ lo ∧ u.events.states = s.events.states ∧
      Evaluated s.settings.noticeRepeat s.events u.events)


/-! ## Receivers -/

/-- R128, R129, R131, R132: the receiver's items outside a data octet: the bits hunted through in SEEKING, with the
delimiter found or passed over, the three kinds of octet in BETWEEN, each assembled most significant bit first, and an
escape in IN_FRAME, which after an escape is the data octet 0xD9, held or, with two octets held, taken as the octet
0xC9 that it is. Bits after the delimiter are not the event's (log 18). -/
def Obligations.ReceiverTakesDelimitersAndEscapes : Prop :=
  ∀ (l : Line) (o : Octet) (bits : List Bool) (s : State), s.supply = .main →
    ((s.receiver l).state = .seeking →
      (∀ n, DelimiterFirstAt (s.receiver l).recent bits n → exec (.huntDelimiter ⟨l, bits⟩) s = .next (setReceiver l
        { s.receiver l with
          state := .between, recent := bitsAfter (s.receiver l).recent bits n, aligned := true
          escapePending := false, decoded := 0, held := [] } s)) ∧
      ((∀ n, ¬DelimiterFirstAt (s.receiver l).recent bits n) → exec (.huntDelimiter ⟨l, bits⟩) s = .next
        (setReceiver l
          { s.receiver l with recent := bitsAfter (s.receiver l).recent bits bits.length } s))) ∧
    ((s.receiver l).state = .between →
      exec (.betweenOctet l 0xC3) s =
        .next (setReceiver l { s.receiver l with recent := recentAfter (s.receiver l) 0xC3 } s) ∧
      exec (.betweenOctet l 0xC9) s = .next (setReceiver l
        { s.receiver l with
          state := .inFrame, recent := recentAfter (s.receiver l) 0xC9, escapePending := true, decoded := 0
          held := [], check := 0xFFFF } s) ∧
      (o ≠ 0xC3 → o ≠ 0xC9 → exec (.betweenOctet l o) s = .next (setReceiver l
        { s.receiver l with
          state := .inFrame, recent := recentAfter (s.receiver l) o, escapePending := false, decoded := 1
          held := [o], check := 0xFFFF } s))) ∧
    ((s.receiver l).state = .inFrame →
      ((s.receiver l).escapePending = false →
        exec (.escape l) s = .next (setReceiver l
          { s.receiver l with recent := recentAfter (s.receiver l) 0xC9, escapePending := true } s)) ∧
      ((s.receiver l).escapePending = true → 2 ≤ (s.receiver l).held.length →
        exec (.escape l) s = exec (.dataOctet l 0xC9) s) ∧
      ((s.receiver l).escapePending = true → (s.receiver l).held.length < 2 →
        exec (.escape l) s = .next (setReceiver l
          { s.receiver l with
            recent := recentAfter (s.receiver l) 0xC9, escapePending := false, decoded := (s.receiver l).decoded + 1
            held := (s.receiver l).held ++ [0xD9] } s)))

/-- R114, R129, R133, R134: a data octet in IN_FRAME that needs no claim. With fewer than two octets held it is held; else
the oldest held octet is stored at the next position of the frame's last block, where alone the memory changes, and
taken into the running check. -/
def Obligations.DataOctetHeldOrStored : Prop :=
  ∀ (l : Line) (o d : Octet) (s : State), s.supply = .main → (s.receiver l).state = .inFrame →
    (if (s.receiver l).escapePending then o ≠ 0xC3 ∧ d = o ^^^ 0x10 else o ≠ 0xC3 ∧ o ≠ 0xC9 ∧ d = o) →
    ((s.receiver l).held.length < 2 → exec (.dataOctet l o) s = .next (setReceiver l
      { s.receiver l with
        recent := recentAfter (s.receiver l) o, escapePending := false, decoded := (s.receiver l).decoded + 1
        held := (s.receiver l).held ++ [d] } s)) ∧
    ∀ (x y : Octet) (h : Block), (s.receiver l).held = [x, y] → (s.receiver l).handle = some h →
      (s.record h).length % 64 ≠ 0 → (s.record h).length + 1 ≤ s.settings.maxFrameLength →
      ∃ t, exec (.dataOctet l o) s = .next t ∧ t = { s with rx := t.rx, store := t.store } ∧
        t.rx = s.rx.set l
          { s.receiver l with
            recent := recentAfter (s.receiver l) o, escapePending := false, decoded := (s.receiver l).decoded + 1
            held := [y, d], check := checkOctet (s.receiver l).check x } ∧
        t.store = { s.store with mem := t.store.mem, records := t.store.records } ∧
        (∀ b, t.record b = if b = h then { s.record h with length := (s.record h).length + 1 } else s.record b) ∧
        (Memory.wf s.store.mem = true →
          ∀ a, memRead t.store.mem a =
            if a = 64 * ((s.record h).chain.getLastD h).val + (s.record h).length % 64 then x
            else memRead s.store.mem a)

/-- R114, R115, R123: a data octet in IN_FRAME that claims a block: the head of the free list, where the free count
exceeds the reserve for line A or is at least 1 for line B. The first claim chooses the handle and writes its record;
a later one extends the chain. A claim that leaves the free count at or below low-water while armed raises STORE_LOW
and disarms. -/
def Obligations.DataOctetClaimsBlock : Prop :=
  ∀ (l : Line) (o d x y : Octet) (b : Block) (rest : List Block) (s : State),
    s.supply = .main → (s.receiver l).state = .inFrame →
    (if (s.receiver l).escapePending then o ≠ 0xC3 ∧ d = o ^^^ 0x10 else o ≠ 0xC3 ∧ o ≠ 0xC9 ∧ d = o) →
    (s.receiver l).held = [x, y] → s.store.free = b :: rest → (l = .a → s.settings.reserve < rest.length + 1) →
    Memory.wf s.store.mem = true →
    ∀ (h : Block) (r : FrameRecord),
      (((s.receiver l).handle = none ∧ 1 ≤ s.settings.maxFrameLength ∧ h = b ∧
          r = { s.record b with line := l, length := 1, chain := [b] }) ∨
        ((s.receiver l).handle = some h ∧ (s.record h).length % 64 = 0 ∧
          (s.record h).length + 1 ≤ s.settings.maxFrameLength ∧
          r = { s.record h with length := (s.record h).length + 1, chain := (s.record h).chain ++ [b] })) →
      ∃ t, exec (.dataOctet l o) s = .next t ∧ t = { s with rx := t.rx, store := t.store, events := t.events } ∧
        t.rx = s.rx.set l
          { s.receiver l with
            recent := recentAfter (s.receiver l) o, escapePending := false, decoded := (s.receiver l).decoded + 1
            held := [y, d], handle := some h
            check := checkOctet (s.receiver l).check x } ∧
        t.store.free = rest ∧ (∀ k, t.record k = if k = h then r else s.record k) ∧
        (∀ a, memRead t.store.mem a = if a = 64 * b.val then x else memRead s.store.mem a) ∧
        (s.store.armed = true → rest.length ≤ s.settings.lowWater →
          t.store.armed = false ∧ Raised s.settings.noticeRepeat .storeLow s.events t.events) ∧
        (s.store.armed = false ∨ s.settings.lowWater < rest.length →
          t.store.armed = s.store.armed ∧ t.events = s.events)

/-- R118, R124, R135, R136: an octet that would pass the max frame length, or whose claim fails, rejects the frame: its
chain, if any, goes to the tail of the free list, the receiver enters DISCARDING with the reason, and nothing is
counted or raised. The length test comes before the claim. That nothing is released where nothing is claimed is read from
the rules (log 16); that the decoded count, the running check and the alignment stand is the model's choice (log 26). -/
def Obligations.LongFrameOrFailedClaimRejects : Prop :=
  ∀ (l : Line) (o x y : Octet) (why : RejectReason) (s : State),
    s.supply = .main → (s.receiver l).state = .inFrame →
    (if (s.receiver l).escapePending then o ≠ 0xC3 else o ≠ 0xC3 ∧ o ≠ 0xC9) → (s.receiver l).held = [x, y] →
    (why = .longFrame ∧ s.settings.maxFrameLength < s.receivedLength l + 1 ∨
      why = .storeDrop ∧ s.receivedLength l + 1 ≤ s.settings.maxFrameLength ∧
        ((s.receiver l).handle = none ∨ s.receivedLength l % 64 = 0) ∧
        (if l = .a then s.store.free.length ≤ s.settings.reserve else s.store.free = [])) →
    ∃ t, exec (.dataOctet l o) s = .next t ∧ t = { s with rx := t.rx, store := t.store } ∧
      t.rx = s.rx.set l
        { s.receiver l with
          state := .discarding, recent := recentAfter (s.receiver l) o, escapePending := false
          decoded := (s.receiver l).decoded + 1, held := [], reject := some why, handle := none } ∧
      ((s.receiver l).handle = none → t.store = s.store) ∧
      ∀ h, (s.receiver l).handle = some h →
        t.store = { s.store with
                    free := s.store.free ++ (s.record h).chain
                    armed := s.armedAfter (s.record h).chain.length }

/-- R118, R137, R139: the bad ends of a frame in IN_FRAME. A closing delimiter after 4 data octets or fewer is a runt (after
none, which no run reaches, by the model's choice: log 25); after 5 or more with a check mismatch it is a check error; a
cancel marker abandons the frame, as a closing delimiter after an escape does. The chain, if any, is released (log 16),
the line's counter counts, and the receiver enters BETWEEN. That CANCEL_MARKER leaves 0xC9 and 0xC3 as the most recent
bits is the model's choice (log 18). -/
def Obligations.BadFrameEndsRelease : Prop :=
  ∀ (l : Line) (c : Instr) (k : LineCounter) (e : Option Event) (s : State),
    s.supply = .main → (s.receiver l).state = .inFrame →
    ((c = .closingDelimiter l ∧ (s.receiver l).escapePending = false ∧ (s.receiver l).decoded ≤ 4 ∧ k = .runts ∧
        e = none) ∨
      (c = .closingDelimiter l ∧ (s.receiver l).escapePending = false ∧ 5 ≤ (s.receiver l).decoded ∧
        k = .checkErrors ∧ e = some .checkError ∧
        ∃ hi lo, (s.receiver l).held = [hi, lo] ∧ (s.receiver l).check ≠ hi ++ lo) ∨
      (k = .aborts ∧ e = some .frameAbort ∧
        (c = .cancelMarker l ∨ c = .closingDelimiter l ∧ (s.receiver l).escapePending = true))) →
    ∃ t, exec c s = .next t ∧
      t = { s with rx := t.rx, store := t.store, counters := t.counters, events := t.events } ∧
      t.rx = s.rx.set l
        { s.receiver l with
          state := .between, recent := if c = .cancelMarker l then 0xC9C3 else recentAfter (s.receiver l) 0xC3
          aligned := true, escapePending := false, decoded := 0, held := [], reject := none
          handle := none } ∧
      ((s.receiver l).handle = none → t.store = s.store) ∧
      (∀ h, (s.receiver l).handle = some h →
        t.store = { s.store with
                    free := s.store.free ++ (s.record h).chain
                    armed := s.armedAfter (s.record h).chain.length }) ∧
      Counted (.line l k) 1 s t ∧ OthersUncounted [.line l k] s t ∧
      (e = none → t.events = s.events) ∧
      ∀ ev, e = some ev → Raised s.settings.noticeRepeat ev s.events t.events

/-- R129, R140: in DISCARDING the first delimiter ends the rejected frame and counts it for its reason, a cancel marker ends
it uncounted, and every other bit is passed over. The bits hunted through are the command's operand, and bits after the
delimiter are not the event's (log 17, log 18). An aligned octet is no event in DISCARDING (log 2). -/
def Obligations.DiscardingEndsAtDelimiter : Prop :=
  ∀ (l : Line) (bits : List Bool) (o : Octet) (s : State), s.supply = .main → (s.receiver l).state = .discarding →
    (exec (.dataOctet l o) s = .next s ∧ exec (.betweenOctet l o) s = .next s ∧ exec (.escape l) s = .next s) ∧
    ((∀ n, ¬DelimiterFirstAt (s.receiver l).recent bits n) → exec (.discardingDelimiter l bits) s = .next
      (setReceiver l { s.receiver l with recent := bitsAfter (s.receiver l).recent bits bits.length } s)) ∧
    ∀ n, DelimiterFirstAt (s.receiver l).recent bits n →
      let before : Octet := (bitsAfter (s.receiver l).recent bits n).extractLsb' 8 8
      ∃ t, exec (.discardingDelimiter l bits) s = .next t ∧
      t = { s with rx := t.rx, counters := t.counters, events := t.events } ∧
      t.rx = s.rx.set l
        { s.receiver l with
          state := .between, recent := bitsAfter (s.receiver l).recent bits n
          aligned := true, escapePending := false, decoded := 0, held := [], reject := none
          handle := none } ∧
      (before = 0xC9 → t.counters = s.counters ∧ t.events = s.events) ∧
      (before ≠ 0xC9 → (s.receiver l).reject = some .longFrame →
        Counted (.line l .longFrames) 1 s t ∧ OthersUncounted [.line l .longFrames] s t ∧
          Raised s.settings.noticeRepeat .longFrame s.events t.events) ∧
      (before ≠ 0xC9 → (s.receiver l).reject = some .storeDrop →
        Counted (.line l .storeDrops) 1 s t ∧ OthersUncounted [.line l .storeDrops] s t ∧
          Raised s.settings.noticeRepeat .storeDrop s.events t.events)

/-! ## Frame ends and classification -/

/-- R88, R99, R100, R117, R137, R138: a closing delimiter with a good check completes the frame, which recognition does not
take. The record is completed and given the deciding entry, the good frames counter and one RULE counter count, and
the frame joins the tail of its queue below the limit, is discarded there at the limit with QUEUE_DROP, or is
discarded by the outcome; a discarded frame's chain goes to the tail of the free list. -/
def Obligations.CompleteFrameIsClassified : Prop :=
  ∀ (l : Line) (hi lo : Octet) (h : Block) (s : State) (os : List Octet) (decided : Option EntryIx),
    s.supply = .main → (s.receiver l).state = .inFrame → (s.receiver l).escapePending = false →
    5 ≤ (s.receiver l).decoded → (s.receiver l).held = [hi, lo] → (s.receiver l).check = hi ++ lo →
    (s.receiver l).handle = some h → (s.record h).length = (s.receiver l).decoded - 2 →
    os = s.store.frameOctets h → s.recognises os = false → decided = s.classifier.decide l os →
    ∃ t, exec (.closingDelimiter l) s = .next t ∧
      t = { s with rx := t.rx, store := t.store, queues := t.queues, counters := t.counters, events := t.events } ∧
      t.rx = s.rx.set l
        { s.receiver l with
          state := .between, recent := recentAfter (s.receiver l) 0xC3
          aligned := true, escapePending := false, decoded := 0, held := [], reject := none
          handle := none } ∧
      (∀ b, t.record b =
        if b = h then { s.record h with stamp := s.uptime, matched := decided, attempts := 0 } else s.record b) ∧
      t.store.mem = s.store.mem ∧ Counted (.line l .goodFrames) 1 s t ∧ Counted (hitCounter l decided) 1 s t ∧
      (∀ q, s.verdict l decided = .forward q → (s.queue q).frames.length < (s.queue q).limit →
        t.queues = s.queues.set q.val { s.queue q with frames := (s.queue q).frames ++ [h] } q.isLt ∧
        t.store.free = s.store.free ∧ t.store.armed = s.store.armed ∧ t.events = s.events ∧
        Counted (.queue q .joined) 1 s t ∧
        OthersUncounted [.line l .goodFrames, hitCounter l decided, .queue q .joined] s t) ∧
      (∀ q, s.verdict l decided = .forward q → (s.queue q).limit ≤ (s.queue q).frames.length →
        t.queues = s.queues ∧ t.store.free = s.store.free ++ (s.record h).chain ∧
        t.store.armed = s.armedAfter (s.record h).chain.length ∧
        Raised s.settings.noticeRepeat .queueDrop s.events t.events ∧ Counted (.queue q .fullDrops) 1 s t ∧
        OthersUncounted [.line l .goodFrames, hitCounter l decided, .queue q .fullDrops] s t) ∧
      (s.verdict l decided = .discard →
        t.queues = s.queues ∧ t.store.free = s.store.free ++ (s.record h).chain ∧
        t.store.armed = s.armedAfter (s.record h).chain.length ∧ t.events = s.events ∧
        OthersUncounted [.line l .goodFrames, hitCounter l decided] s t)

/-- R88, R89, R138, R148, R153: a good frame of kind 0xE1 addressed to the station of a managed part is a request: its blocks
are released and the agent takes it as the command of its code, with its source and line of arrival; one of fewer than
2 payload octets is counted as malformed and discarded. That the agent takes it within the frame-end event is read
from the rules (log 3). -/
def Obligations.RecognisedRequestIsTaken : Prop :=
  ∀ (l : Line) (hi lo src : Octet) (h : Block) (s : State) (payload : List Octet),
    s.supply = .main → s.managed = true → (s.receiver l).state = .inFrame → (s.receiver l).escapePending = false →
    5 ≤ (s.receiver l).decoded → (s.receiver l).held = [hi, lo] → (s.receiver l).check = hi ++ lo →
    (s.receiver l).handle = some h → (s.record h).length = (s.receiver l).decoded - 2 →
    s.store.frameOctets h = [s.station, src, 0xE1] ++ payload →
    ∃ u, u = { s with rx := u.rx, store := u.store, counters := u.counters } ∧
      u.rx = s.rx.set l
        { s.receiver l with
          state := .between, recent := recentAfter (s.receiver l) 0xC3
          aligned := true, escapePending := false, decoded := 0, held := [], reject := none
          handle := none } ∧
      u.store.free = s.store.free ++ (s.record h).chain ∧ u.store.mem = s.store.mem ∧
      u.store.armed = s.armedAfter (s.record h).chain.length ∧
      (∀ b, u.record b =
        if b = h then { s.record h with stamp := s.uptime, matched := none, attempts := 0 } else s.record b) ∧
      Counted (.line l .goodFrames) 1 s u ∧ OthersUncounted [.line l .goodFrames] s u ∧
      (∀ seq code ps, payload = seq :: code :: ps →
        exec (.closingDelimiter l) s = exec (requestInstr ⟨l, src, seq, code, ps⟩) u) ∧
      (payload.length < 2 → ∃ t, exec (.closingDelimiter l) s = .next t ∧ t = { u with counters := t.counters } ∧
        Counted (.mgmt .malformed) 1 u t ∧ OthersUncounted [.mgmt .malformed] u t)

/-- R96: the search decides by the first entry of the active bank that is examined and matches, unless an examined entry
before it has its last flag set; otherwise no entry decides. -/
def Obligations.SearchFindsFirstMatch : Prop :=
  ∀ (c : Classifier) (l : Line) (os : List Octet),
    let bank := if c.active then c.bank1 else c.bank0
    (∀ i : EntryIx, c.decide l os = some i ↔
      bank[i].examined l = true ∧ bank[i].passes os = true ∧
        ∀ j : EntryIx, j < i → bank[j].examined l = true → bank[j].passes os = false ∧ bank[j].last = false) ∧
    (c.decide l os = none ↔
      ∀ i : EntryIx, bank[i].examined l = true → bank[i].passes os = true →
        ∃ j : EntryIx, j < i ∧ bank[j].examined l = true ∧ bank[j].passes os = false ∧ bank[j].last = true)

/-- R92, R93, R94, R95, R98: an entry's tests and the outcome it gives, for a frame of at least its three header octets. -/
def Obligations.EntryTestsAndOutcome : Prop :=
  (∀ (e : RuleEntry) (l : Line) (dst src kind : Octet) (payload : List Octet),
    (e.examined l = true ↔ e.valid = true ∧
      (e.direction = .both ∨ (e.direction = .outbound ∧ l = .a) ∨ (e.direction = .inbound ∧ l = .b))) ∧
    (e.passes ([dst, src, kind] ++ payload) = true ↔
      dst &&& e.destination.mask = e.destination.value &&& e.destination.mask ∧
      src &&& e.source.mask = e.source.value &&& e.source.mask ∧
      kind &&& e.kind.mask = e.kind.value &&& e.kind.mask ∧
      (∀ p, e.probe = some p →
        ∃ hp : p.offset < payload.length, payload[p.offset] &&& p.mask = p.value &&& p.mask) ∧
      ∀ r, e.lengths = some r → r.minimum ≤ payload.length + 3 ∧ payload.length + 3 ≤ r.maximum)) ∧
  ∀ (s : State) (i : EntryIx),
    let e := if s.classifier.active then s.classifier.bank1[i] else s.classifier.bank0[i]
    (e.action = .discard → ∀ l, s.verdict l (some i) = .discard) ∧
    (e.action = .forward → s.verdict .b (some i) = .forward 7 ∧
      ∀ q : QueueIx, q.val = e.queue.val → s.verdict .a (some i) = .forward q) ∧
    (∀ (k : Fin 7) (q : QueueIx), q.val = k.val → s.settings.outboundDefault = .forward k →
      s.verdict .a none = .forward q) ∧
    (s.settings.outboundDefault = .discard → s.verdict .a none = .discard) ∧
    (s.settings.inboundDefault = .forward → s.verdict .b none = .forward 7) ∧
    (s.settings.inboundDefault = .discard → s.verdict .b none = .discard)

/-- R115: no event of line A's receiver, the end of a frame and what follows from it included, brings the free count below
the reserve, or below what it was. -/
def Obligations.OutboundClaimsKeepReserve : Prop :=
  ∀ (s t : State) (o : Octet) (bits : List Bool) (c : Instr),
    c ∈ [.dataOctet .a o, .betweenOctet .a o, .escape .a, .closingDelimiter .a, .cancelMarker .a,
      .huntDelimiter ⟨.a, bits⟩, .discardingDelimiter .a bits] → exec c s = .next t →
    min s.freeCount s.settings.reserve ≤ t.freeCount

/-! ## Selection and transmission -/

/-- R30, R31, R33, R65, R84: when a queue is eligible, the sponsor a departure of its head is given, and the priority of the
sources: the QUEUED slot that stands first in the line's queued order; then, on line B in RUNNING only, EXP and S1 to
S6 in ascending number, each when eligible, and on line A INB. -/
def Obligations.EligibilitySponsorAndPriority : Prop :=
  (∀ (s : State) (q : QueueIx),
    let scheduled : Prop := 1 ≤ q.val ∧ q.val ≤ 6
    let openFor (w : WindowIx) : Prop :=
      s.windows[w].state.phase = .opened ∧ s.windows[w].entry.queueSet.getLsbD q.val = true
    (s.eligible q = true ↔
      (s.queue q).frozen = false ∧ (s.queue q).frames ≠ [] ∧
        (¬scheduled ∨ 0 < (s.queue q).mark ∨ (s.tk.timeValid = true ∧ ∃ w, openFor w) ∨
          (s.tk.timeValid = false ∧ (s.queue q).fallback = .release))) ∧
    (∀ w, scheduled → s.tk.timeValid = true → (s.queue q).mark = 0 → openFor w → (∀ v, v < w → ¬openFor v) →
      s.sponsorOf q = some { window := w, opening := s.windows[w].state.opening }) ∧
    (¬scheduled ∨ s.tk.timeValid = false ∨ 0 < (s.queue q).mark ∨ (∀ w, ¬openFor w) → s.sponsorOf q = none)) ∧
  ∀ s : State,
    let firstQueued (l : Line) (i : SlotIx) : Prop := ∃ before after, (s.agent l).order = before ++ i :: after ∧
      (s.agent l).slots[i].state = .queued ∧ ∀ j ∈ before, (s.agent l).slots[j].state ≠ .queued
    let noneQueued (l : Line) : Prop := ∀ i ∈ (s.agent l).order, (s.agent l).slots[i].state ≠ .queued
    (∀ i, s.sourceB = some (.slot i) ↔ firstQueued .b i) ∧
    (∀ i, s.sourceA = some (.slot i) ↔ firstQueued .a i) ∧
    (∀ q h, s.sourceB = some (.queue q h) ↔
      noneQueued .b ∧ s.trunkMode = .running ∧ q.val ≤ 6 ∧ s.eligible q = true ∧
        (s.queue q).frames.head? = some h ∧ ∀ p : QueueIx, p < q → s.eligible p = false) ∧
    (∀ q h, s.sourceA = some (.queue q h) ↔
      noneQueued .a ∧ q.val = 7 ∧ s.eligible q = true ∧ (s.queue q).frames.head? = some h) ∧
    (s.sourceB = none ↔
      noneQueued .b ∧ (s.trunkMode = .stopped ∨ ∀ q : QueueIx, q.val ≤ 6 → s.eligible q = false)) ∧
    (s.sourceA = none ↔ noneQueued .a ∧ s.eligible 7 = false)

/-- R6, R65, R66, R67, R69: SELECTION_B while transmitter B is IDLE: the slot becomes SENDING, or the head leaves its queue
with its mark and sponsor; transmitter B enters SENDING where B_GNT is present, else REQUESTING with the grant timer
loaded. The timer is loaded in either case; that it holds its value where B_GNT stops it at once is the model's choice
(log 32). Without a source, or in another state, nothing is selected (log 2). -/
def Obligations.SelectionBTakesSource : Prop :=
  ∀ s : State, s.supply = .main →
    (s.txB ≠ .idle ∨ s.sourceB = none → exec .selectionB s = .next s) ∧
    (∀ i, s.txB = .idle → s.sourceB = some (.slot i) → exec .selectionB s = .next
      { setAgent .b ((s.agent .b).setSlot i { (s.agent .b).slots[i] with state := .sending }) s with
        grantTimer := s.settings.grantTimeout
        txB := if s.grant then .sending (.slot i) (frameStream (slotOctets s .b i)) else .requesting (.slot i) }) ∧
    ∀ q h, s.txB = .idle → s.sourceB = some (.queue q h) →
      let record : InFlight := .frame q h (decide (0 < (s.queue q).mark)) (s.sponsorOf q)
      exec .selectionB s = .next
        { setQueue q { s.queue q with frames := (s.queue q).frames.tail, mark := (s.queue q).mark - 1 } s with
          grantTimer := s.settings.grantTimeout
          txB := if s.grant then .sending record (frameStream (s.store.frameOctets h)) else .requesting record }

/-- R84: SELECTION_A while transmitter A is IDLE; the octets a slot sends carry the station as their source (R149). Without
a source, or in another state, nothing is selected (log 2). -/
def Obligations.SelectionATakesSource : Prop :=
  (∀ s : State, s.supply = .main →
    (s.txA ≠ .idle ∨ s.sourceA = none → exec .selectionA s = .next s) ∧
    (s.txA = .idle → ∃ t, exec .selectionA s = .next t ∧ SelectedA s t)) ∧
  ∀ (s : State) (l : Line) (i : SlotIx) (f : SlotFrame), (s.agent l).slots[i].content = some f →
    slotOctets s l i = [f.destination, s.station, f.kind] ++ f.payload

/-- R64, R69, R71, R75: B_GNT present ends REQUESTING in SENDING; the hold-off's end enters IDLE; in every other state the
level of B_GNT is noted and nothing else happens, and an expiry finds no timer (log 2). The grant timer runs in REQUESTING
alone and the hold-off timer in HOLDOFF alone. That a timer stopped holds its value is the model's choice, and that one
run out is at 0 is read from the rules (log 32). -/
def Obligations.GrantAndHoldoffEvents : Prop :=
  ∀ s : State, s.supply = .main →
    (∀ f, s.txB = .requesting f → exec .grantPresent s =
      .next { s with grant := true, txB := .sending f (frameStream (inFlightOctets s .b f)) }) ∧
    ((∀ f, s.txB ≠ .requesting f) →
      exec .grantPresent s = .next { s with grant := true } ∧ exec .grantTimeout s = .next s) ∧
    ((∀ f os, s.txB ≠ .sending f os) → exec .grantLoss s = .next { s with grant := false }) ∧
    (s.txB = .holdoff → exec .holdoffExpiry s = .next { s with txB := .idle, holdoffTimer := 0 }) ∧
    (s.txB ≠ .holdoff → exec .holdoffExpiry s = .next s) ∧
    (s.grantTimerRuns = true ↔ ∃ f, s.txB = .requesting f) ∧ (s.holdoffTimerRuns = true ↔ s.txB = .holdoff)

/-- R7, R70, R72, R73, R75: a failed attempt of a data frame, by grant timeout or grant loss. Its attempt count increments and
GRANT_FAIL is raised; within the retry limit it returns to the head of its queue with its mark, whatever the limit and
the frozen flag; beyond it its blocks are released, counted as a retry drop with RETRY_DROP. HOLDOFF follows, or IDLE
for a hold-off of 0, the hold-off timer loaded. A grant loss sends a cancel marker, after how many octets is left free
(log 14), a timeout sends nothing. The grant timer run out is at 0, and at a loss, stopped before, holds its value (log
32). -/
def Obligations.FailedFrameReturnsOrDrops : Prop :=
  ∀ (c : Instr) (k : Counter) (q : QueueIx) (h : Block) (marked : Bool) (sponsor : Option Sponsor) (s : State),
    s.supply = .main →
    ((c = .grantTimeout ∧ k = .grantTimeouts ∧ s.txB = .requesting (.frame q h marked sponsor)) ∨
      (c = .grantLoss ∧ k = .grantLosses ∧ ∃ os, s.txB = .sending (.frame q h marked sponsor) os)) →
    ∃ t, exec c s = .next t ∧
      t = { s with
            store := t.store, queues := t.queues, counters := t.counters, events := t.events
            grant := if c = .grantLoss then false else s.grant
            grantTimer := if c = .grantTimeout then 0 else s.grantTimer
            holdoffTimer := s.settings.holdOff
            txB := if s.settings.holdOff = 0 then .idle else .holdoff
            sent := t.sent, draws := t.draws } ∧
      (c = .grantTimeout → t.sent = s.sent ∧ t.draws = s.draws) ∧
      (∀ os, s.txB = .sending (.frame q h marked sponsor) os → t.sent.a = s.sent.a ∧ CutShort os t.sent.b) ∧
      (∀ b, t.record b =
        if b = h then { s.record h with attempts := (s.record h).attempts + 1 } else s.record b) ∧
      t.store.mem = s.store.mem ∧ Counted k 1 s t ∧
      ((s.record h).attempts + 1 ≤ s.settings.retryLimit →
        t.queues = s.queues.set q.val
          { s.queue q with
            frames := h :: (s.queue q).frames, mark := (s.queue q).mark + if marked then 1 else 0 } q.isLt ∧
        t.store.free = s.store.free ∧ t.store.armed = s.store.armed ∧ OthersUncounted [k] s t ∧
        Raised s.settings.noticeRepeat .grantFail s.events t.events) ∧
      (s.settings.retryLimit < (s.record h).attempts + 1 →
        t.queues = s.queues ∧ t.store.free = s.store.free ++ (s.record h).chain ∧
        t.store.armed = s.armedAfter (s.record h).chain.length ∧
        Counted (.queue q .retryDrops) 1 s t ∧ OthersUncounted [k, .queue q .retryDrops] s t ∧
        ∃ mid, Raised s.settings.noticeRepeat .grantFail s.events mid ∧
          Raised s.settings.noticeRepeat .retryDrop mid t.events)

/-- R70, R72, R74, R75, R160, R163: a failed attempt of a line B slot. Its attempt count increments and GRANT_FAIL is raised;
within the retry limit it is QUEUED again in its place; beyond it its sending ends, counted as responses lost. A cancel
marker comes after a number of octets left free (log 14). The grant timer run out is at 0, and at a loss, stopped before,
holds its value (log 32). -/
def Obligations.FailedSlotRequeuesOrEnds : Prop :=
  ∀ (c : Instr) (k : Counter) (i : SlotIx) (s : State), s.supply = .main →
    ((c = .grantTimeout ∧ k = .grantTimeouts ∧ s.txB = .requesting (.slot i)) ∨
      (c = .grantLoss ∧ k = .grantLosses ∧ ∃ os, s.txB = .sending (.slot i) os)) →
    let counted : State := setAgent .b ((s.agent .b).setSlot i
      { (s.agent .b).slots[i] with state := .queued, attempts := (s.agent .b).slots[i].attempts + 1 }) s
    ∃ t, exec c s = .next t ∧
      t = { s with
            mgmt := t.mgmt, restart := t.restart, counters := t.counters, events := t.events
            grant := if c = .grantLoss then false else s.grant
            grantTimer := if c = .grantTimeout then 0 else s.grantTimer
            holdoffTimer := s.settings.holdOff
            txB := if s.settings.holdOff = 0 then .idle else .holdoff
            sent := t.sent, draws := t.draws } ∧
      (c = .grantTimeout → t.sent = s.sent ∧ t.draws = s.draws) ∧
      (∀ os, s.txB = .sending (.slot i) os → t.sent.a = s.sent.a ∧ CutShort os t.sent.b) ∧
      Counted k 1 s t ∧ Raised s.settings.noticeRepeat .grantFail s.events t.events ∧
      ((s.agent .b).slots[i].attempts + 1 ≤ s.settings.retryLimit →
        t.mgmt = counted.mgmt ∧ t.restart = s.restart ∧ OthersUncounted [k] s t) ∧
      (s.settings.retryLimit < (s.agent .b).slots[i].attempts + 1 →
        SlotEnded .b i counted t ∧ Counted (.mgmt .responsesLost) 1 s t ∧
          OthersUncounted [k, .mgmt .responsesLost] s t)

/-- R34, R77, R79: the completion of a data frame on line B. The frame's blocks are released, the released and frames sent
counters count, and a frame with a sponsor sends a charge of its length; then the continuation. The charge is taken
before the continuation's selection where `chargeFirst` says so (R35), and one still outstanding from before is taken
first of all (log 15). -/
def Obligations.CompletionBFrameReleasesAndCharges : Prop :=
  (∀ (chargeFirst : Bool) (q : QueueIx) (h : Block) (marked : Bool) (sponsor : Option Sponsor) (os : List Octet)
      (s : State), s.supply = .main → s.txB = .sending (.frame q h marked sponsor) os → s.charge = none →
    ∃ t u v, exec (.completionBFrame chargeFirst) s = .next t ∧
      u = { s with
            store := { s.store with
                       free := s.store.free ++ (s.record h).chain
                       armed := s.armedAfter (s.record h).chain.length }
            counters := u.counters
            charge := sponsor.map fun w => { length := (s.record h).length, sponsor := w }
            sent := { s.sent with b := os } } ∧
      Counted (.queue q .released) 1 s u ∧ Counted (.line .b .framesSent) 1 s u ∧
      OthersUncounted [.queue q .released, .line .b .framesSent] s u ∧
      (if chargeFirst then exec .charge u = .next v else v = u) ∧ ContinuedB v t) ∧
  ∀ (chargeFirst : Bool) (s u : State), exec .charge s = .next u →
    exec (.completionBFrame chargeFirst) s = exec (.completionBFrame chargeFirst) u ∨
      (∀ q h marked sponsor os, s.txB ≠ .sending (.frame q h marked sponsor) os)

/-- R78, R79, R85, R160, R163: the completion of a slot on line B or A, and of a data frame on line A. A slot counts frames
sent, and notices sent for a notice, and its sending ends; a data frame is released and counted. On line B the
continuation follows, on line A the selection. A charge still outstanding is taken before the completion of a slot on
line B (log 15). What a line carries (R142, R143): in SENDING the transmission, and otherwise the last one it ended,
with its cancel marker if it was cut (log 23), and after either idle fill, each octet most significant bit first. -/
def Obligations.CompletionOfSlotsAndLineA : Prop :=
  (∀ (i : SlotIx) (os : List Octet) (s : State), s.supply = .main → s.txB = .sending (.slot i) os → s.charge = none →
    ∃ t u, exec .completionBSlot s = .next t ∧
      u = { s with mgmt := u.mgmt, restart := u.restart, counters := u.counters, sent := { s.sent with b := os } } ∧
      SlotEnded .b i s u ∧ Counted (.line .b .framesSent) 1 s u ∧
      (s.holdsNotice .b i = true →
        Counted (.mgmt .noticesSent) 1 s u ∧ OthersUncounted [.line .b .framesSent, .mgmt .noticesSent] s u) ∧
      (s.holdsNotice .b i = false → OthersUncounted [.line .b .framesSent] s u) ∧ ContinuedB u t) ∧
  (∀ (i : SlotIx) (os : List Octet) (s u : State), s.supply = .main → s.txB = .sending (.slot i) os →
    exec .charge s = .next u → u.charge = none ∧ exec .completionBSlot s = exec .completionBSlot u) ∧
  (∀ (s : State) (k n : Nat),
    (∀ f os, s.txA = .sending f os → s.lineOctet .a k = os.getD k 0xC3) ∧
    (s.txA = .idle → s.lineOctet .a k = s.sent.a.getD k 0xC3) ∧
    (∀ f os, s.txB = .sending f os → s.lineOctet .b k = os.getD k 0xC3) ∧
    ((∀ f os, s.txB ≠ .sending f os) → s.lineOctet .b k = s.sent.b.getD k 0xC3) ∧
    ∀ l, s.lineBit l n = (s.lineOctet l (n / 8)).getLsbD (7 - n % 8)) ∧
  (∀ (i : SlotIx) (os : List Octet) (s : State), s.supply = .main → s.txA = .sending (.slot i) os →
    ∃ t u, exec .completionA s = .next t ∧
      u = { s with mgmt := u.mgmt, restart := u.restart, counters := u.counters, sent := { s.sent with a := os } } ∧
      SlotEnded .a i s u ∧ Counted (.line .a .framesSent) 1 s u ∧
      (s.holdsNotice .a i = true →
        Counted (.mgmt .noticesSent) 1 s u ∧ OthersUncounted [.line .a .framesSent, .mgmt .noticesSent] s u) ∧
      (s.holdsNotice .a i = false → OthersUncounted [.line .a .framesSent] s u) ∧ SelectedA u t) ∧
  ∀ (q : QueueIx) (h : Block) (marked : Bool) (sponsor : Option Sponsor) (os : List Octet) (s : State),
    s.supply = .main → s.txA = .sending (.frame q h marked sponsor) os →
    ∃ t u, exec .completionA s = .next t ∧
      u = { s with
            store := { s.store with
                       free := s.store.free ++ (s.record h).chain
                       armed := s.armedAfter (s.record h).chain.length }
            counters := u.counters, sent := { s.sent with a := os } } ∧
      Counted (.queue 7 .released) 1 s u ∧ Counted (.line .a .framesSent) 1 s u ∧
      OthersUncounted [.queue 7 .released, .line .a .framesSent] s u ∧ SelectedA u t

/-! ## The schedule unit and the clocks -/

/-- R34, R38: a charge is taken against an OPEN window of the same instance with a budget: the remaining budget decreases by
the frame length, and at or below 0 it is set to 0, the window is SPENT and BUDGET_SPENT is raised. In every other
case it is ignored. -/
def Obligations.ChargeTakenOrIgnored : Prop :=
  ∀ (c : Charge) (s : State), s.supply = .main → s.charge = some c →
    let w := s.windows[c.sponsor.window]
    (w.state.phase ≠ .opened ∨ w.state.opening ≠ c.sponsor.opening ∨ w.entry.budget = 0 →
      exec .charge s = .next { s with charge := none }) ∧
    (w.state.phase = .opened → w.state.opening = c.sponsor.opening → w.entry.budget ≠ 0 →
      (c.length < w.state.budget → exec .charge s = .next
        { s with
          charge := none
          windows := s.windows.set c.sponsor.window.val
            { w with state := { w.state with budget := w.state.budget - c.length } } c.sponsor.window.isLt }) ∧
      (w.state.budget ≤ c.length → ∃ t, exec .charge s = .next t ∧
        t = { s with
              charge := none
              windows := s.windows.set c.sponsor.window.val
                { w with state := { w.state with budget := 0, phase := .spent } } c.sponsor.window.isLt
              events := t.events } ∧
        Raised s.settings.noticeRepeat .budgetSpent s.events t.events))

/-- R48: one second step carries the calendar one second on: the time and date counted in seconds from 2000 advance by one,
modulo the hundred years of the calendar, the fields stay in range, and the weekday advances at each day change. -/
def Obligations.CalendarCountsSeconds : Prop :=
  ∀ c : Calendar, c.valid = true →
    c.tick.valid = true ∧ c.tick.secondNumber = (c.secondNumber + 1) % (36525 * 86400) ∧
      c.tick.weekday =
        (c.weekday + if c.hour = 23 ∧ c.minute = 59 ∧ c.second = 59 then 1 else 0) % 7

/-- R48, R49, R50, R51: a second step counts only while the timekeeping domain is powered and the crystal runs, and without
any supply none of the clock's events is taken. One that does
not roll the seconds changes the timekeeping record alone; one that does is the minute boundary. A MINUTE_BOUNDARY
command at another second is not taken (log 2, log 6). The crystal's return advances the divider by the cycle that
returned it (log 7), and the stop closes every window and raises CLOCK_STOPPED while main supply powers the core domain. -/
def Obligations.SecondStepsStopsAndReturns : Prop :=
  (∀ s : State, s.supply = .none →
    exec .secondStep s = .next s ∧ exec .minuteBoundary s = .next s ∧ exec .oscillatorStop s = .next s ∧
      exec .crystalReturn s = .next s) ∧
  ∀ s : State, s.supply ≠ .none →
    (s.tk.crystal = .running → s.tk.cal.second + 1 < 60 →
      exec .secondStep s = .next { s with
        tk := { s.tk with cal := { s.tk.cal with second := s.tk.cal.second + 1 }, divider := 0 } } ∧
      exec .minuteBoundary s = .next s) ∧
    (s.tk.crystal = .running → 60 ≤ s.tk.cal.second + 1 → exec .secondStep s = exec .minuteBoundary s) ∧
    (s.tk.crystal = .stopped → exec .secondStep s = .next s ∧ exec .minuteBoundary s = .next s ∧
      exec .oscillatorStop s = .next s ∧
      (s.tk.divider + 1 < 32768 → exec .crystalReturn s = .next { s with
        tk := { s.tk with crystal := .running, divider := s.tk.divider + 1 } }) ∧
      (s.tk.divider = 32767 → exec .crystalReturn s =
        exec .secondStep { s with tk := { s.tk with crystal := .running } })) ∧
    (s.tk.crystal = .running → exec .crystalReturn s = .next s ∧
      (s.supply = .backup → exec .oscillatorStop s = .next { s with
        tk := { s.tk with crystal := .stopped, timeValid := false } }) ∧
      (s.supply = .main → ∃ t mid, exec .oscillatorStop s = .next t ∧
        t = { s with
              tk := { s.tk with crystal := .stopped, timeValid := false }
              windows := t.windows, events := t.events } ∧
        (∀ w : WindowIx, t.windows[w] =
          if s.windows[w].state.phase = .closed then s.windows[w]
          else { s.windows[w] with state := { s.windows[w].state with phase := .closed, minutes := 0 } }) ∧
        Raised s.settings.noticeRepeat .clockStopped s.events mid ∧
        ((∀ w : WindowIx, s.windows[w].state.phase = .closed) → t.events = mid) ∧
        ((∃ w : WindowIx, s.windows[w].state.phase ≠ .closed) →
          Raised s.settings.noticeRepeat .windowClosed mid t.events)))

/-- R24 to R29, R49: the minute boundary. While TIME_VALID is no, or main supply absent, it moves the calendar alone. Else
every OPEN or SPENT window counts one minute down and closes at the last, and then every CLOSED window whose enabled
entry matches the new calendar time opens, one just closed included, with a full budget and a new instance; closings
and openings raise their events. -/
def Obligations.MinuteBoundaryClosesAndOpens : Prop :=
  ∀ s : State, s.supply ≠ .none → s.tk.crystal = .running → 60 ≤ s.tk.cal.second + 1 →
    ∃ t mid, exec .minuteBoundary s = .next t ∧
      t = { s with
            tk := { s.tk with cal := s.tk.cal.tick, divider := 0 }, windows := t.windows, events := t.events } ∧
      (s.supply = .backup ∨ s.tk.timeValid = false → t.windows = s.windows ∧ t.events = s.events) ∧
      (s.supply = .main → s.tk.timeValid = true →
        let time := s.tk.cal.tick
        let isMatch (w : WindowIx) : Prop :=
          let e := s.windows[w].entry
          e.enabled = true ∧ e.minute = time.minute ∧ (∀ h, e.hour = some h → h = time.hour) ∧
            (∀ ds, e.weekdays = some ds → ds.getLsbD time.weekday = true) ∧ ∀ d, e.day = some d → d = time.day
        let runsOn (w : WindowIx) : Prop := s.windows[w].state.phase ≠ .closed ∧ 1 < s.windows[w].state.minutes
        let runsOut (w : WindowIx) : Prop := s.windows[w].state.phase ≠ .closed ∧ s.windows[w].state.minutes ≤ 1
        (∀ w : WindowIx, t.windows[w].entry = s.windows[w].entry) ∧
        (∀ w : WindowIx, runsOn w →
          t.windows[w].state = { s.windows[w].state with minutes := s.windows[w].state.minutes - 1 }) ∧
        (∀ w : WindowIx, ¬runsOn w → isMatch w → t.windows[w].state =
          { phase := .opened, minutes := s.windows[w].entry.duration, budget := s.windows[w].entry.budget
            opening := s.windows[w].state.opening + 1 }) ∧
        (∀ w : WindowIx, runsOut w → ¬isMatch w →
          t.windows[w].state = { s.windows[w].state with phase := .closed, minutes := 0 }) ∧
        (∀ w : WindowIx, s.windows[w].state.phase = .closed → ¬isMatch w →
          t.windows[w].state = s.windows[w].state) ∧
        ((∀ w, ¬runsOut w) → mid = s.events) ∧
        ((∃ w, runsOut w) → Raised s.settings.noticeRepeat .windowClosed s.events mid) ∧
        ((∀ w, runsOn w ∨ ¬isMatch w) → t.events = mid) ∧
        ((∃ w, ¬runsOn w ∧ isMatch w) → Raised s.settings.noticeRepeat .windowOpened mid t.events))

/-- R11, R12, R57, R58, R120, R197: an uptime second: uptime advances, a running repeat timer counts down, and every queue
with a max age drops its heads that have reached it, oldest first, with their marks; their chains reach the tail of
the free list, each whole, in an order of the queues the spec leaves open (log 13). That a repeat timer at 0 stays there and
waits for its expiry is read from the rules (log 27). -/
def Obligations.UptimeSecondAgesQueues : Prop :=
  ∀ s : State, s.supply = .main →
    ∃ (t : State) (aged : QueueIx → List Block) (order : List QueueIx),
      exec .uptimeSecond s = .next t ∧
      t = { s with
            uptime := s.uptime + 1, uptimeDivider := 0, draws := t.draws, store := t.store, queues := t.queues
            counters := t.counters, events := t.events } ∧
      (∀ q, (s.queue q).frames = aged q ++ (t.queue q).frames ∧
        t.queue q = { s.queue q with
                      frames := (t.queue q).frames, mark := (s.queue q).mark - (aged q).length } ∧
        ((s.queue q).maxAge = 0 → aged q = []) ∧
        (∀ h ∈ aged q, (s.queue q).maxAge ≤ (s.uptime + 1 - (s.record h).stamp).toNat) ∧
        ((s.queue q).maxAge ≠ 0 → ∀ h, (t.queue q).frames.head? = some h →
          (s.uptime + 1 - (s.record h).stamp).toNat < (s.queue q).maxAge) ∧
        Counted (.queue q .ageDrops) (aged q).length s t) ∧
      order.Perm (List.finRange 8) ∧
      t.store = { s.store with
                  free := s.store.free ++ (order.flatMap aged).flatMap fun h => (s.record h).chain
                  armed := t.store.armed } ∧
      t.store.armed = (if (∀ q, aged q = []) then s.store.armed
        else s.armedAfter ((order.flatMap aged).flatMap fun h => (s.record h).chain).length) ∧
      OthersUncounted (List.ofFn fun q : QueueIx => .queue q .ageDrops) s t ∧
      let timed : EventUnit :=
        { s.events with notice := { s.events.notice with timer := s.events.notice.timer.map (· - 1) } }
      ((∀ q, aged q = []) → t.events = timed) ∧
      ((∃ q, aged q ≠ []) → Raised s.settings.noticeRepeat .ageDrop timed t.events)

/-! ## Notices -/

/-- R149, R161, R195, R196, R197, R210: the repeat's expiry makes an OUTSTANDING unit OWED. The build, while the unit is OWED
on a managed part whose notice line has a FREE slot, places notice n + 1 in the lowest-numbered one, listing every
pending event, and reports them all, the unit OUTSTANDING with its timer started. Without one of the conditions, or with a
timer not at 0, nothing happens (log 2); a timer at 0 waits for the command (log 27). -/
def Obligations.NoticesAreBuiltAndRepeated : Prop :=
  ∀ s : State, s.supply = .main →
    (s.events.notice.state = .outstanding → s.events.notice.timer = some 0 →
      exec .noticeRepeatExpiry s = .next { s with
        events := { s.events with notice := { s.events.notice with state := .owed, timer := none } } }) ∧
    (s.events.notice.state ≠ .outstanding ∨ s.events.notice.timer ≠ some 0 →
      exec .noticeRepeatExpiry s = .next s) ∧
    (s.events.notice.state ≠ .owed ∨ s.managed = false ∨ s.settings.noticeLine = none ∨
      (∃ l, s.settings.noticeLine = some l ∧ ∀ i : SlotIx, (s.agent l).slots[i].state ≠ .free) →
      exec .noticeBuild s = .next s) ∧
    ∀ (l : Line) (i : SlotIx), s.events.notice.state = .owed → s.managed = true →
      s.settings.noticeLine = some l → (s.agent l).slots[i].state = .free →
      (∀ j : SlotIx, j < i → (s.agent l).slots[j].state ≠ .free) →
      ∃ (t : State) (pendingSet newSet : Word16), exec .noticeBuild s = .next t ∧
        t = { s with mgmt := t.mgmt, events := t.events } ∧
        (∀ n : Fin 16, pendingSet.getLsbD n.val = decide (s.events.states[n] ≠ .clear)) ∧
        (∀ n : Fin 16, newSet.getLsbD n.val = decide (s.events.states[n] = .unreported)) ∧
        (t.agent l).slots[i] =
          { state := .queued
            content := some
              { role := .notice, destination := s.settings.noticeStation, kind := 0xE3
                payload := [s.events.notice.number + 1] ++ be16 pendingSet ++ be16 newSet ++ be32 s.uptime ++
                  [if s.tk.timeValid then 0x80 else 0] }
            attempts := 0 } ∧
        (∀ j : SlotIx, j ≠ i → (t.agent l).slots[j] = (s.agent l).slots[j]) ∧
        (t.agent l).order = (s.agent l).order.filter (· != i) ++ [i] ∧ (t.agent l).cache = (s.agent l).cache ∧
        (∀ l', l' ≠ l → t.agent l' = s.agent l') ∧ t.events.mask = s.events.mask ∧
        (∀ n : Fin 16, t.events.states[n] = if s.events.states[n] = .clear then .clear else .reported) ∧
        t.events.notice =
          { state := .outstanding, number := s.events.notice.number + 1
            timer := if s.settings.noticeRepeat = 0 then none else some s.settings.noticeRepeat }
end

