-- ==== Sys2Proof/Laws/State.lean ====
section
/-! SUPPORT. The small lemmas of the state's updates: for every shared update and every field it leaves alone, that the
field is as it was. Each is true by unfolding the update once, so that no later proof unfolds it again. -/

namespace Sys2Proof.Machine

/-! ### setReceiver -/

@[simp] theorem setReceiver_pending (l : Line) (r : Receiver) (s : State) : (setReceiver l r s).pending = s.pending := rfl
@[simp] theorem setReceiver_draws (l : Line) (r : Receiver) (s : State) : (setReceiver l r s).draws = s.draws := rfl
@[simp] theorem setReceiver_supply (l : Line) (r : Receiver) (s : State) : (setReceiver l r s).supply = s.supply := rfl
@[simp] theorem setReceiver_tk (l : Line) (r : Receiver) (s : State) : (setReceiver l r s).tk = s.tk := rfl
@[simp] theorem setReceiver_uptime (l : Line) (r : Receiver) (s : State) : (setReceiver l r s).uptime = s.uptime := rfl
@[simp] theorem setReceiver_uptimeDivider (l : Line) (r : Receiver) (s : State) : (setReceiver l r s).uptimeDivider = s.uptimeDivider := rfl
@[simp] theorem setReceiver_station (l : Line) (r : Receiver) (s : State) : (setReceiver l r s).station = s.station := rfl
@[simp] theorem setReceiver_settings (l : Line) (r : Receiver) (s : State) : (setReceiver l r s).settings = s.settings := rfl
@[simp] theorem setReceiver_store (l : Line) (r : Receiver) (s : State) : (setReceiver l r s).store = s.store := rfl
@[simp] theorem setReceiver_queues (l : Line) (r : Receiver) (s : State) : (setReceiver l r s).queues = s.queues := rfl
@[simp] theorem setReceiver_classifier (l : Line) (r : Receiver) (s : State) : (setReceiver l r s).classifier = s.classifier := rfl
@[simp] theorem setReceiver_windows (l : Line) (r : Receiver) (s : State) : (setReceiver l r s).windows = s.windows := rfl
@[simp] theorem setReceiver_charge (l : Line) (r : Receiver) (s : State) : (setReceiver l r s).charge = s.charge := rfl
@[simp] theorem setReceiver_txA (l : Line) (r : Receiver) (s : State) : (setReceiver l r s).txA = s.txA := rfl
@[simp] theorem setReceiver_txB (l : Line) (r : Receiver) (s : State) : (setReceiver l r s).txB = s.txB := rfl
@[simp] theorem setReceiver_grantTimer (l : Line) (r : Receiver) (s : State) : (setReceiver l r s).grantTimer = s.grantTimer := rfl
@[simp] theorem setReceiver_holdoffTimer (l : Line) (r : Receiver) (s : State) : (setReceiver l r s).holdoffTimer = s.holdoffTimer := rfl
@[simp] theorem setReceiver_trunkMode (l : Line) (r : Receiver) (s : State) : (setReceiver l r s).trunkMode = s.trunkMode := rfl
@[simp] theorem setReceiver_grant (l : Line) (r : Receiver) (s : State) : (setReceiver l r s).grant = s.grant := rfl
@[simp] theorem setReceiver_sent (l : Line) (r : Receiver) (s : State) : (setReceiver l r s).sent = s.sent := rfl
@[simp] theorem setReceiver_mgmt (l : Line) (r : Receiver) (s : State) : (setReceiver l r s).mgmt = s.mgmt := rfl
@[simp] theorem setReceiver_restart (l : Line) (r : Receiver) (s : State) : (setReceiver l r s).restart = s.restart := rfl
@[simp] theorem setReceiver_events (l : Line) (r : Receiver) (s : State) : (setReceiver l r s).events = s.events := rfl
@[simp] theorem setReceiver_counters (l : Line) (r : Receiver) (s : State) : (setReceiver l r s).counters = s.counters := rfl

/-! ### setQueue -/

@[simp] theorem setQueue_pending (q : QueueIx) (x : Queue) (s : State) : (setQueue q x s).pending = s.pending := rfl
@[simp] theorem setQueue_draws (q : QueueIx) (x : Queue) (s : State) : (setQueue q x s).draws = s.draws := rfl
@[simp] theorem setQueue_supply (q : QueueIx) (x : Queue) (s : State) : (setQueue q x s).supply = s.supply := rfl
@[simp] theorem setQueue_tk (q : QueueIx) (x : Queue) (s : State) : (setQueue q x s).tk = s.tk := rfl
@[simp] theorem setQueue_uptime (q : QueueIx) (x : Queue) (s : State) : (setQueue q x s).uptime = s.uptime := rfl
@[simp] theorem setQueue_uptimeDivider (q : QueueIx) (x : Queue) (s : State) : (setQueue q x s).uptimeDivider = s.uptimeDivider := rfl
@[simp] theorem setQueue_station (q : QueueIx) (x : Queue) (s : State) : (setQueue q x s).station = s.station := rfl
@[simp] theorem setQueue_settings (q : QueueIx) (x : Queue) (s : State) : (setQueue q x s).settings = s.settings := rfl
@[simp] theorem setQueue_rx (q : QueueIx) (x : Queue) (s : State) : (setQueue q x s).rx = s.rx := rfl
@[simp] theorem setQueue_store (q : QueueIx) (x : Queue) (s : State) : (setQueue q x s).store = s.store := rfl
@[simp] theorem setQueue_classifier (q : QueueIx) (x : Queue) (s : State) : (setQueue q x s).classifier = s.classifier := rfl
@[simp] theorem setQueue_windows (q : QueueIx) (x : Queue) (s : State) : (setQueue q x s).windows = s.windows := rfl
@[simp] theorem setQueue_charge (q : QueueIx) (x : Queue) (s : State) : (setQueue q x s).charge = s.charge := rfl
@[simp] theorem setQueue_txA (q : QueueIx) (x : Queue) (s : State) : (setQueue q x s).txA = s.txA := rfl
@[simp] theorem setQueue_txB (q : QueueIx) (x : Queue) (s : State) : (setQueue q x s).txB = s.txB := rfl
@[simp] theorem setQueue_grantTimer (q : QueueIx) (x : Queue) (s : State) : (setQueue q x s).grantTimer = s.grantTimer := rfl
@[simp] theorem setQueue_holdoffTimer (q : QueueIx) (x : Queue) (s : State) : (setQueue q x s).holdoffTimer = s.holdoffTimer := rfl
@[simp] theorem setQueue_trunkMode (q : QueueIx) (x : Queue) (s : State) : (setQueue q x s).trunkMode = s.trunkMode := rfl
@[simp] theorem setQueue_grant (q : QueueIx) (x : Queue) (s : State) : (setQueue q x s).grant = s.grant := rfl
@[simp] theorem setQueue_sent (q : QueueIx) (x : Queue) (s : State) : (setQueue q x s).sent = s.sent := rfl
@[simp] theorem setQueue_mgmt (q : QueueIx) (x : Queue) (s : State) : (setQueue q x s).mgmt = s.mgmt := rfl
@[simp] theorem setQueue_restart (q : QueueIx) (x : Queue) (s : State) : (setQueue q x s).restart = s.restart := rfl
@[simp] theorem setQueue_events (q : QueueIx) (x : Queue) (s : State) : (setQueue q x s).events = s.events := rfl
@[simp] theorem setQueue_counters (q : QueueIx) (x : Queue) (s : State) : (setQueue q x s).counters = s.counters := rfl

/-! ### setRecord -/

@[simp] theorem setRecord_pending (h : Block) (r : FrameRecord) (s : State) : (setRecord h r s).pending = s.pending := rfl
@[simp] theorem setRecord_draws (h : Block) (r : FrameRecord) (s : State) : (setRecord h r s).draws = s.draws := rfl
@[simp] theorem setRecord_supply (h : Block) (r : FrameRecord) (s : State) : (setRecord h r s).supply = s.supply := rfl
@[simp] theorem setRecord_tk (h : Block) (r : FrameRecord) (s : State) : (setRecord h r s).tk = s.tk := rfl
@[simp] theorem setRecord_uptime (h : Block) (r : FrameRecord) (s : State) : (setRecord h r s).uptime = s.uptime := rfl
@[simp] theorem setRecord_uptimeDivider (h : Block) (r : FrameRecord) (s : State) : (setRecord h r s).uptimeDivider = s.uptimeDivider := rfl
@[simp] theorem setRecord_station (h : Block) (r : FrameRecord) (s : State) : (setRecord h r s).station = s.station := rfl
@[simp] theorem setRecord_settings (h : Block) (r : FrameRecord) (s : State) : (setRecord h r s).settings = s.settings := rfl
@[simp] theorem setRecord_rx (h : Block) (r : FrameRecord) (s : State) : (setRecord h r s).rx = s.rx := rfl
@[simp] theorem setRecord_queues (h : Block) (r : FrameRecord) (s : State) : (setRecord h r s).queues = s.queues := rfl
@[simp] theorem setRecord_classifier (h : Block) (r : FrameRecord) (s : State) : (setRecord h r s).classifier = s.classifier := rfl
@[simp] theorem setRecord_windows (h : Block) (r : FrameRecord) (s : State) : (setRecord h r s).windows = s.windows := rfl
@[simp] theorem setRecord_charge (h : Block) (r : FrameRecord) (s : State) : (setRecord h r s).charge = s.charge := rfl
@[simp] theorem setRecord_txA (h : Block) (r : FrameRecord) (s : State) : (setRecord h r s).txA = s.txA := rfl
@[simp] theorem setRecord_txB (h : Block) (r : FrameRecord) (s : State) : (setRecord h r s).txB = s.txB := rfl
@[simp] theorem setRecord_grantTimer (h : Block) (r : FrameRecord) (s : State) : (setRecord h r s).grantTimer = s.grantTimer := rfl
@[simp] theorem setRecord_holdoffTimer (h : Block) (r : FrameRecord) (s : State) : (setRecord h r s).holdoffTimer = s.holdoffTimer := rfl
@[simp] theorem setRecord_trunkMode (h : Block) (r : FrameRecord) (s : State) : (setRecord h r s).trunkMode = s.trunkMode := rfl
@[simp] theorem setRecord_grant (h : Block) (r : FrameRecord) (s : State) : (setRecord h r s).grant = s.grant := rfl
@[simp] theorem setRecord_sent (h : Block) (r : FrameRecord) (s : State) : (setRecord h r s).sent = s.sent := rfl
@[simp] theorem setRecord_mgmt (h : Block) (r : FrameRecord) (s : State) : (setRecord h r s).mgmt = s.mgmt := rfl
@[simp] theorem setRecord_restart (h : Block) (r : FrameRecord) (s : State) : (setRecord h r s).restart = s.restart := rfl
@[simp] theorem setRecord_events (h : Block) (r : FrameRecord) (s : State) : (setRecord h r s).events = s.events := rfl
@[simp] theorem setRecord_counters (h : Block) (r : FrameRecord) (s : State) : (setRecord h r s).counters = s.counters := rfl

/-! ### setWindow -/

@[simp] theorem setWindow_pending (i : WindowIx) (w : Window) (s : State) : (setWindow i w s).pending = s.pending := rfl
@[simp] theorem setWindow_draws (i : WindowIx) (w : Window) (s : State) : (setWindow i w s).draws = s.draws := rfl
@[simp] theorem setWindow_supply (i : WindowIx) (w : Window) (s : State) : (setWindow i w s).supply = s.supply := rfl
@[simp] theorem setWindow_tk (i : WindowIx) (w : Window) (s : State) : (setWindow i w s).tk = s.tk := rfl
@[simp] theorem setWindow_uptime (i : WindowIx) (w : Window) (s : State) : (setWindow i w s).uptime = s.uptime := rfl
@[simp] theorem setWindow_uptimeDivider (i : WindowIx) (w : Window) (s : State) : (setWindow i w s).uptimeDivider = s.uptimeDivider := rfl
@[simp] theorem setWindow_station (i : WindowIx) (w : Window) (s : State) : (setWindow i w s).station = s.station := rfl
@[simp] theorem setWindow_settings (i : WindowIx) (w : Window) (s : State) : (setWindow i w s).settings = s.settings := rfl
@[simp] theorem setWindow_rx (i : WindowIx) (w : Window) (s : State) : (setWindow i w s).rx = s.rx := rfl
@[simp] theorem setWindow_store (i : WindowIx) (w : Window) (s : State) : (setWindow i w s).store = s.store := rfl
@[simp] theorem setWindow_queues (i : WindowIx) (w : Window) (s : State) : (setWindow i w s).queues = s.queues := rfl
@[simp] theorem setWindow_classifier (i : WindowIx) (w : Window) (s : State) : (setWindow i w s).classifier = s.classifier := rfl
@[simp] theorem setWindow_charge (i : WindowIx) (w : Window) (s : State) : (setWindow i w s).charge = s.charge := rfl
@[simp] theorem setWindow_txA (i : WindowIx) (w : Window) (s : State) : (setWindow i w s).txA = s.txA := rfl
@[simp] theorem setWindow_txB (i : WindowIx) (w : Window) (s : State) : (setWindow i w s).txB = s.txB := rfl
@[simp] theorem setWindow_grantTimer (i : WindowIx) (w : Window) (s : State) : (setWindow i w s).grantTimer = s.grantTimer := rfl
@[simp] theorem setWindow_holdoffTimer (i : WindowIx) (w : Window) (s : State) : (setWindow i w s).holdoffTimer = s.holdoffTimer := rfl
@[simp] theorem setWindow_trunkMode (i : WindowIx) (w : Window) (s : State) : (setWindow i w s).trunkMode = s.trunkMode := rfl
@[simp] theorem setWindow_grant (i : WindowIx) (w : Window) (s : State) : (setWindow i w s).grant = s.grant := rfl
@[simp] theorem setWindow_sent (i : WindowIx) (w : Window) (s : State) : (setWindow i w s).sent = s.sent := rfl
@[simp] theorem setWindow_mgmt (i : WindowIx) (w : Window) (s : State) : (setWindow i w s).mgmt = s.mgmt := rfl
@[simp] theorem setWindow_restart (i : WindowIx) (w : Window) (s : State) : (setWindow i w s).restart = s.restart := rfl
@[simp] theorem setWindow_events (i : WindowIx) (w : Window) (s : State) : (setWindow i w s).events = s.events := rfl
@[simp] theorem setWindow_counters (i : WindowIx) (w : Window) (s : State) : (setWindow i w s).counters = s.counters := rfl

/-! ### setAgent -/

@[simp] theorem setAgent_pending (l : Line) (g : LineAgent) (s : State) : (setAgent l g s).pending = s.pending := rfl
@[simp] theorem setAgent_draws (l : Line) (g : LineAgent) (s : State) : (setAgent l g s).draws = s.draws := rfl
@[simp] theorem setAgent_supply (l : Line) (g : LineAgent) (s : State) : (setAgent l g s).supply = s.supply := rfl
@[simp] theorem setAgent_tk (l : Line) (g : LineAgent) (s : State) : (setAgent l g s).tk = s.tk := rfl
@[simp] theorem setAgent_uptime (l : Line) (g : LineAgent) (s : State) : (setAgent l g s).uptime = s.uptime := rfl
@[simp] theorem setAgent_uptimeDivider (l : Line) (g : LineAgent) (s : State) : (setAgent l g s).uptimeDivider = s.uptimeDivider := rfl
@[simp] theorem setAgent_station (l : Line) (g : LineAgent) (s : State) : (setAgent l g s).station = s.station := rfl
@[simp] theorem setAgent_settings (l : Line) (g : LineAgent) (s : State) : (setAgent l g s).settings = s.settings := rfl
@[simp] theorem setAgent_rx (l : Line) (g : LineAgent) (s : State) : (setAgent l g s).rx = s.rx := rfl
@[simp] theorem setAgent_store (l : Line) (g : LineAgent) (s : State) : (setAgent l g s).store = s.store := rfl
@[simp] theorem setAgent_queues (l : Line) (g : LineAgent) (s : State) : (setAgent l g s).queues = s.queues := rfl
@[simp] theorem setAgent_classifier (l : Line) (g : LineAgent) (s : State) : (setAgent l g s).classifier = s.classifier := rfl
@[simp] theorem setAgent_windows (l : Line) (g : LineAgent) (s : State) : (setAgent l g s).windows = s.windows := rfl
@[simp] theorem setAgent_charge (l : Line) (g : LineAgent) (s : State) : (setAgent l g s).charge = s.charge := rfl
@[simp] theorem setAgent_txA (l : Line) (g : LineAgent) (s : State) : (setAgent l g s).txA = s.txA := rfl
@[simp] theorem setAgent_txB (l : Line) (g : LineAgent) (s : State) : (setAgent l g s).txB = s.txB := rfl
@[simp] theorem setAgent_grantTimer (l : Line) (g : LineAgent) (s : State) : (setAgent l g s).grantTimer = s.grantTimer := rfl
@[simp] theorem setAgent_holdoffTimer (l : Line) (g : LineAgent) (s : State) : (setAgent l g s).holdoffTimer = s.holdoffTimer := rfl
@[simp] theorem setAgent_trunkMode (l : Line) (g : LineAgent) (s : State) : (setAgent l g s).trunkMode = s.trunkMode := rfl
@[simp] theorem setAgent_grant (l : Line) (g : LineAgent) (s : State) : (setAgent l g s).grant = s.grant := rfl
@[simp] theorem setAgent_sent (l : Line) (g : LineAgent) (s : State) : (setAgent l g s).sent = s.sent := rfl
@[simp] theorem setAgent_restart (l : Line) (g : LineAgent) (s : State) : (setAgent l g s).restart = s.restart := rfl
@[simp] theorem setAgent_events (l : Line) (g : LineAgent) (s : State) : (setAgent l g s).events = s.events := rfl
@[simp] theorem setAgent_counters (l : Line) (g : LineAgent) (s : State) : (setAgent l g s).counters = s.counters := rfl

/-! ### bumpBy -/

@[simp] theorem bumpBy_pending (c : Counter) (n : Nat) (s : State) : (bumpBy c n s).pending = s.pending := rfl
@[simp] theorem bumpBy_draws (c : Counter) (n : Nat) (s : State) : (bumpBy c n s).draws = s.draws := rfl
@[simp] theorem bumpBy_supply (c : Counter) (n : Nat) (s : State) : (bumpBy c n s).supply = s.supply := rfl
@[simp] theorem bumpBy_tk (c : Counter) (n : Nat) (s : State) : (bumpBy c n s).tk = s.tk := rfl
@[simp] theorem bumpBy_uptime (c : Counter) (n : Nat) (s : State) : (bumpBy c n s).uptime = s.uptime := rfl
@[simp] theorem bumpBy_uptimeDivider (c : Counter) (n : Nat) (s : State) : (bumpBy c n s).uptimeDivider = s.uptimeDivider := rfl
@[simp] theorem bumpBy_station (c : Counter) (n : Nat) (s : State) : (bumpBy c n s).station = s.station := rfl
@[simp] theorem bumpBy_settings (c : Counter) (n : Nat) (s : State) : (bumpBy c n s).settings = s.settings := rfl
@[simp] theorem bumpBy_rx (c : Counter) (n : Nat) (s : State) : (bumpBy c n s).rx = s.rx := rfl
@[simp] theorem bumpBy_store (c : Counter) (n : Nat) (s : State) : (bumpBy c n s).store = s.store := rfl
@[simp] theorem bumpBy_queues (c : Counter) (n : Nat) (s : State) : (bumpBy c n s).queues = s.queues := rfl
@[simp] theorem bumpBy_classifier (c : Counter) (n : Nat) (s : State) : (bumpBy c n s).classifier = s.classifier := rfl
@[simp] theorem bumpBy_windows (c : Counter) (n : Nat) (s : State) : (bumpBy c n s).windows = s.windows := rfl
@[simp] theorem bumpBy_charge (c : Counter) (n : Nat) (s : State) : (bumpBy c n s).charge = s.charge := rfl
@[simp] theorem bumpBy_txA (c : Counter) (n : Nat) (s : State) : (bumpBy c n s).txA = s.txA := rfl
@[simp] theorem bumpBy_txB (c : Counter) (n : Nat) (s : State) : (bumpBy c n s).txB = s.txB := rfl
@[simp] theorem bumpBy_grantTimer (c : Counter) (n : Nat) (s : State) : (bumpBy c n s).grantTimer = s.grantTimer := rfl
@[simp] theorem bumpBy_holdoffTimer (c : Counter) (n : Nat) (s : State) : (bumpBy c n s).holdoffTimer = s.holdoffTimer := rfl
@[simp] theorem bumpBy_trunkMode (c : Counter) (n : Nat) (s : State) : (bumpBy c n s).trunkMode = s.trunkMode := rfl
@[simp] theorem bumpBy_grant (c : Counter) (n : Nat) (s : State) : (bumpBy c n s).grant = s.grant := rfl
@[simp] theorem bumpBy_sent (c : Counter) (n : Nat) (s : State) : (bumpBy c n s).sent = s.sent := rfl
@[simp] theorem bumpBy_mgmt (c : Counter) (n : Nat) (s : State) : (bumpBy c n s).mgmt = s.mgmt := rfl
@[simp] theorem bumpBy_restart (c : Counter) (n : Nat) (s : State) : (bumpBy c n s).restart = s.restart := rfl
@[simp] theorem bumpBy_events (c : Counter) (n : Nat) (s : State) : (bumpBy c n s).events = s.events := rfl

/-! ### bump -/

@[simp] theorem bump_pending (c : Counter) (s : State) : (bump c s).pending = s.pending := rfl
@[simp] theorem bump_draws (c : Counter) (s : State) : (bump c s).draws = s.draws := rfl
@[simp] theorem bump_supply (c : Counter) (s : State) : (bump c s).supply = s.supply := rfl
@[simp] theorem bump_tk (c : Counter) (s : State) : (bump c s).tk = s.tk := rfl
@[simp] theorem bump_uptime (c : Counter) (s : State) : (bump c s).uptime = s.uptime := rfl
@[simp] theorem bump_uptimeDivider (c : Counter) (s : State) : (bump c s).uptimeDivider = s.uptimeDivider := rfl
@[simp] theorem bump_station (c : Counter) (s : State) : (bump c s).station = s.station := rfl
@[simp] theorem bump_settings (c : Counter) (s : State) : (bump c s).settings = s.settings := rfl
@[simp] theorem bump_rx (c : Counter) (s : State) : (bump c s).rx = s.rx := rfl
@[simp] theorem bump_store (c : Counter) (s : State) : (bump c s).store = s.store := rfl
@[simp] theorem bump_queues (c : Counter) (s : State) : (bump c s).queues = s.queues := rfl
@[simp] theorem bump_classifier (c : Counter) (s : State) : (bump c s).classifier = s.classifier := rfl
@[simp] theorem bump_windows (c : Counter) (s : State) : (bump c s).windows = s.windows := rfl
@[simp] theorem bump_charge (c : Counter) (s : State) : (bump c s).charge = s.charge := rfl
@[simp] theorem bump_txA (c : Counter) (s : State) : (bump c s).txA = s.txA := rfl
@[simp] theorem bump_txB (c : Counter) (s : State) : (bump c s).txB = s.txB := rfl
@[simp] theorem bump_grantTimer (c : Counter) (s : State) : (bump c s).grantTimer = s.grantTimer := rfl
@[simp] theorem bump_holdoffTimer (c : Counter) (s : State) : (bump c s).holdoffTimer = s.holdoffTimer := rfl
@[simp] theorem bump_trunkMode (c : Counter) (s : State) : (bump c s).trunkMode = s.trunkMode := rfl
@[simp] theorem bump_grant (c : Counter) (s : State) : (bump c s).grant = s.grant := rfl
@[simp] theorem bump_sent (c : Counter) (s : State) : (bump c s).sent = s.sent := rfl
@[simp] theorem bump_mgmt (c : Counter) (s : State) : (bump c s).mgmt = s.mgmt := rfl
@[simp] theorem bump_restart (c : Counter) (s : State) : (bump c s).restart = s.restart := rfl
@[simp] theorem bump_events (c : Counter) (s : State) : (bump c s).events = s.events := rfl

/-! ### raise -/

@[simp] theorem raise_pending (e : Event) (s : State) : (raise e s).pending = s.pending := rfl
@[simp] theorem raise_draws (e : Event) (s : State) : (raise e s).draws = s.draws := rfl
@[simp] theorem raise_supply (e : Event) (s : State) : (raise e s).supply = s.supply := rfl
@[simp] theorem raise_tk (e : Event) (s : State) : (raise e s).tk = s.tk := rfl
@[simp] theorem raise_uptime (e : Event) (s : State) : (raise e s).uptime = s.uptime := rfl
@[simp] theorem raise_uptimeDivider (e : Event) (s : State) : (raise e s).uptimeDivider = s.uptimeDivider := rfl
@[simp] theorem raise_station (e : Event) (s : State) : (raise e s).station = s.station := rfl
@[simp] theorem raise_settings (e : Event) (s : State) : (raise e s).settings = s.settings := rfl
@[simp] theorem raise_rx (e : Event) (s : State) : (raise e s).rx = s.rx := rfl
@[simp] theorem raise_store (e : Event) (s : State) : (raise e s).store = s.store := rfl
@[simp] theorem raise_queues (e : Event) (s : State) : (raise e s).queues = s.queues := rfl
@[simp] theorem raise_classifier (e : Event) (s : State) : (raise e s).classifier = s.classifier := rfl
@[simp] theorem raise_windows (e : Event) (s : State) : (raise e s).windows = s.windows := rfl
@[simp] theorem raise_charge (e : Event) (s : State) : (raise e s).charge = s.charge := rfl
@[simp] theorem raise_txA (e : Event) (s : State) : (raise e s).txA = s.txA := rfl
@[simp] theorem raise_txB (e : Event) (s : State) : (raise e s).txB = s.txB := rfl
@[simp] theorem raise_grantTimer (e : Event) (s : State) : (raise e s).grantTimer = s.grantTimer := rfl
@[simp] theorem raise_holdoffTimer (e : Event) (s : State) : (raise e s).holdoffTimer = s.holdoffTimer := rfl
@[simp] theorem raise_trunkMode (e : Event) (s : State) : (raise e s).trunkMode = s.trunkMode := rfl
@[simp] theorem raise_grant (e : Event) (s : State) : (raise e s).grant = s.grant := rfl
@[simp] theorem raise_sent (e : Event) (s : State) : (raise e s).sent = s.sent := rfl
@[simp] theorem raise_mgmt (e : Event) (s : State) : (raise e s).mgmt = s.mgmt := rfl
@[simp] theorem raise_restart (e : Event) (s : State) : (raise e s).restart = s.restart := rfl
@[simp] theorem raise_counters (e : Event) (s : State) : (raise e s).counters = s.counters := rfl

/-! ### raiseTimes -/

@[simp] theorem raiseTimes_pending (e : Event) (n : Nat) (s : State) : (raiseTimes e n s).pending = s.pending := rfl
@[simp] theorem raiseTimes_draws (e : Event) (n : Nat) (s : State) : (raiseTimes e n s).draws = s.draws := rfl
@[simp] theorem raiseTimes_supply (e : Event) (n : Nat) (s : State) : (raiseTimes e n s).supply = s.supply := rfl
@[simp] theorem raiseTimes_tk (e : Event) (n : Nat) (s : State) : (raiseTimes e n s).tk = s.tk := rfl
@[simp] theorem raiseTimes_uptime (e : Event) (n : Nat) (s : State) : (raiseTimes e n s).uptime = s.uptime := rfl
@[simp] theorem raiseTimes_uptimeDivider (e : Event) (n : Nat) (s : State) : (raiseTimes e n s).uptimeDivider = s.uptimeDivider := rfl
@[simp] theorem raiseTimes_station (e : Event) (n : Nat) (s : State) : (raiseTimes e n s).station = s.station := rfl
@[simp] theorem raiseTimes_settings (e : Event) (n : Nat) (s : State) : (raiseTimes e n s).settings = s.settings := rfl
@[simp] theorem raiseTimes_rx (e : Event) (n : Nat) (s : State) : (raiseTimes e n s).rx = s.rx := rfl
@[simp] theorem raiseTimes_store (e : Event) (n : Nat) (s : State) : (raiseTimes e n s).store = s.store := rfl
@[simp] theorem raiseTimes_queues (e : Event) (n : Nat) (s : State) : (raiseTimes e n s).queues = s.queues := rfl
@[simp] theorem raiseTimes_classifier (e : Event) (n : Nat) (s : State) : (raiseTimes e n s).classifier = s.classifier := rfl
@[simp] theorem raiseTimes_windows (e : Event) (n : Nat) (s : State) : (raiseTimes e n s).windows = s.windows := rfl
@[simp] theorem raiseTimes_charge (e : Event) (n : Nat) (s : State) : (raiseTimes e n s).charge = s.charge := rfl
@[simp] theorem raiseTimes_txA (e : Event) (n : Nat) (s : State) : (raiseTimes e n s).txA = s.txA := rfl
@[simp] theorem raiseTimes_txB (e : Event) (n : Nat) (s : State) : (raiseTimes e n s).txB = s.txB := rfl
@[simp] theorem raiseTimes_grantTimer (e : Event) (n : Nat) (s : State) : (raiseTimes e n s).grantTimer = s.grantTimer := rfl
@[simp] theorem raiseTimes_holdoffTimer (e : Event) (n : Nat) (s : State) : (raiseTimes e n s).holdoffTimer = s.holdoffTimer := rfl
@[simp] theorem raiseTimes_trunkMode (e : Event) (n : Nat) (s : State) : (raiseTimes e n s).trunkMode = s.trunkMode := rfl
@[simp] theorem raiseTimes_grant (e : Event) (n : Nat) (s : State) : (raiseTimes e n s).grant = s.grant := rfl
@[simp] theorem raiseTimes_sent (e : Event) (n : Nat) (s : State) : (raiseTimes e n s).sent = s.sent := rfl
@[simp] theorem raiseTimes_mgmt (e : Event) (n : Nat) (s : State) : (raiseTimes e n s).mgmt = s.mgmt := rfl
@[simp] theorem raiseTimes_restart (e : Event) (n : Nat) (s : State) : (raiseTimes e n s).restart = s.restart := rfl
@[simp] theorem raiseTimes_counters (e : Event) (n : Nat) (s : State) : (raiseTimes e n s).counters = s.counters := rfl

/-! ### raiseIf -/

@[simp] theorem raiseIf_pending (c : Bool) (e : Event) (s : State) : (raiseIf c e s).pending = s.pending := rfl
@[simp] theorem raiseIf_draws (c : Bool) (e : Event) (s : State) : (raiseIf c e s).draws = s.draws := rfl
@[simp] theorem raiseIf_supply (c : Bool) (e : Event) (s : State) : (raiseIf c e s).supply = s.supply := rfl
@[simp] theorem raiseIf_tk (c : Bool) (e : Event) (s : State) : (raiseIf c e s).tk = s.tk := rfl
@[simp] theorem raiseIf_uptime (c : Bool) (e : Event) (s : State) : (raiseIf c e s).uptime = s.uptime := rfl
@[simp] theorem raiseIf_uptimeDivider (c : Bool) (e : Event) (s : State) : (raiseIf c e s).uptimeDivider = s.uptimeDivider := rfl
@[simp] theorem raiseIf_station (c : Bool) (e : Event) (s : State) : (raiseIf c e s).station = s.station := rfl
@[simp] theorem raiseIf_settings (c : Bool) (e : Event) (s : State) : (raiseIf c e s).settings = s.settings := rfl
@[simp] theorem raiseIf_rx (c : Bool) (e : Event) (s : State) : (raiseIf c e s).rx = s.rx := rfl
@[simp] theorem raiseIf_store (c : Bool) (e : Event) (s : State) : (raiseIf c e s).store = s.store := rfl
@[simp] theorem raiseIf_queues (c : Bool) (e : Event) (s : State) : (raiseIf c e s).queues = s.queues := rfl
@[simp] theorem raiseIf_classifier (c : Bool) (e : Event) (s : State) : (raiseIf c e s).classifier = s.classifier := rfl
@[simp] theorem raiseIf_windows (c : Bool) (e : Event) (s : State) : (raiseIf c e s).windows = s.windows := rfl
@[simp] theorem raiseIf_charge (c : Bool) (e : Event) (s : State) : (raiseIf c e s).charge = s.charge := rfl
@[simp] theorem raiseIf_txA (c : Bool) (e : Event) (s : State) : (raiseIf c e s).txA = s.txA := rfl
@[simp] theorem raiseIf_txB (c : Bool) (e : Event) (s : State) : (raiseIf c e s).txB = s.txB := rfl
@[simp] theorem raiseIf_grantTimer (c : Bool) (e : Event) (s : State) : (raiseIf c e s).grantTimer = s.grantTimer := rfl
@[simp] theorem raiseIf_holdoffTimer (c : Bool) (e : Event) (s : State) : (raiseIf c e s).holdoffTimer = s.holdoffTimer := rfl
@[simp] theorem raiseIf_trunkMode (c : Bool) (e : Event) (s : State) : (raiseIf c e s).trunkMode = s.trunkMode := rfl
@[simp] theorem raiseIf_grant (c : Bool) (e : Event) (s : State) : (raiseIf c e s).grant = s.grant := rfl
@[simp] theorem raiseIf_sent (c : Bool) (e : Event) (s : State) : (raiseIf c e s).sent = s.sent := rfl
@[simp] theorem raiseIf_mgmt (c : Bool) (e : Event) (s : State) : (raiseIf c e s).mgmt = s.mgmt := rfl
@[simp] theorem raiseIf_restart (c : Bool) (e : Event) (s : State) : (raiseIf c e s).restart = s.restart := rfl
@[simp] theorem raiseIf_counters (c : Bool) (e : Event) (s : State) : (raiseIf c e s).counters = s.counters := rfl

/-! ### lowTest -/

@[simp] theorem lowTest_pending (s : State) : (lowTest s).pending = s.pending := rfl
@[simp] theorem lowTest_draws (s : State) : (lowTest s).draws = s.draws := rfl
@[simp] theorem lowTest_supply (s : State) : (lowTest s).supply = s.supply := rfl
@[simp] theorem lowTest_tk (s : State) : (lowTest s).tk = s.tk := rfl
@[simp] theorem lowTest_uptime (s : State) : (lowTest s).uptime = s.uptime := rfl
@[simp] theorem lowTest_uptimeDivider (s : State) : (lowTest s).uptimeDivider = s.uptimeDivider := rfl
@[simp] theorem lowTest_station (s : State) : (lowTest s).station = s.station := rfl
@[simp] theorem lowTest_settings (s : State) : (lowTest s).settings = s.settings := rfl
@[simp] theorem lowTest_rx (s : State) : (lowTest s).rx = s.rx := rfl
@[simp] theorem lowTest_queues (s : State) : (lowTest s).queues = s.queues := rfl
@[simp] theorem lowTest_classifier (s : State) : (lowTest s).classifier = s.classifier := rfl
@[simp] theorem lowTest_windows (s : State) : (lowTest s).windows = s.windows := rfl
@[simp] theorem lowTest_charge (s : State) : (lowTest s).charge = s.charge := rfl
@[simp] theorem lowTest_txA (s : State) : (lowTest s).txA = s.txA := rfl
@[simp] theorem lowTest_txB (s : State) : (lowTest s).txB = s.txB := rfl
@[simp] theorem lowTest_grantTimer (s : State) : (lowTest s).grantTimer = s.grantTimer := rfl
@[simp] theorem lowTest_holdoffTimer (s : State) : (lowTest s).holdoffTimer = s.holdoffTimer := rfl
@[simp] theorem lowTest_trunkMode (s : State) : (lowTest s).trunkMode = s.trunkMode := rfl
@[simp] theorem lowTest_grant (s : State) : (lowTest s).grant = s.grant := rfl
@[simp] theorem lowTest_sent (s : State) : (lowTest s).sent = s.sent := rfl
@[simp] theorem lowTest_mgmt (s : State) : (lowTest s).mgmt = s.mgmt := rfl
@[simp] theorem lowTest_restart (s : State) : (lowTest s).restart = s.restart := rfl
@[simp] theorem lowTest_counters (s : State) : (lowTest s).counters = s.counters := rfl

/-! ### releaseChain -/

@[simp] theorem releaseChain_pending (chain : List Block) (s : State) : (releaseChain chain s).pending = s.pending := rfl
@[simp] theorem releaseChain_draws (chain : List Block) (s : State) : (releaseChain chain s).draws = s.draws := rfl
@[simp] theorem releaseChain_supply (chain : List Block) (s : State) : (releaseChain chain s).supply = s.supply := rfl
@[simp] theorem releaseChain_tk (chain : List Block) (s : State) : (releaseChain chain s).tk = s.tk := rfl
@[simp] theorem releaseChain_uptime (chain : List Block) (s : State) : (releaseChain chain s).uptime = s.uptime := rfl
@[simp] theorem releaseChain_uptimeDivider (chain : List Block) (s : State) : (releaseChain chain s).uptimeDivider = s.uptimeDivider := rfl
@[simp] theorem releaseChain_station (chain : List Block) (s : State) : (releaseChain chain s).station = s.station := rfl
@[simp] theorem releaseChain_settings (chain : List Block) (s : State) : (releaseChain chain s).settings = s.settings := rfl
@[simp] theorem releaseChain_rx (chain : List Block) (s : State) : (releaseChain chain s).rx = s.rx := rfl
@[simp] theorem releaseChain_queues (chain : List Block) (s : State) : (releaseChain chain s).queues = s.queues := rfl
@[simp] theorem releaseChain_classifier (chain : List Block) (s : State) : (releaseChain chain s).classifier = s.classifier := rfl
@[simp] theorem releaseChain_windows (chain : List Block) (s : State) : (releaseChain chain s).windows = s.windows := rfl
@[simp] theorem releaseChain_charge (chain : List Block) (s : State) : (releaseChain chain s).charge = s.charge := rfl
@[simp] theorem releaseChain_txA (chain : List Block) (s : State) : (releaseChain chain s).txA = s.txA := rfl
@[simp] theorem releaseChain_txB (chain : List Block) (s : State) : (releaseChain chain s).txB = s.txB := rfl
@[simp] theorem releaseChain_grantTimer (chain : List Block) (s : State) : (releaseChain chain s).grantTimer = s.grantTimer := rfl
@[simp] theorem releaseChain_holdoffTimer (chain : List Block) (s : State) : (releaseChain chain s).holdoffTimer = s.holdoffTimer := rfl
@[simp] theorem releaseChain_trunkMode (chain : List Block) (s : State) : (releaseChain chain s).trunkMode = s.trunkMode := rfl
@[simp] theorem releaseChain_grant (chain : List Block) (s : State) : (releaseChain chain s).grant = s.grant := rfl
@[simp] theorem releaseChain_sent (chain : List Block) (s : State) : (releaseChain chain s).sent = s.sent := rfl
@[simp] theorem releaseChain_mgmt (chain : List Block) (s : State) : (releaseChain chain s).mgmt = s.mgmt := rfl
@[simp] theorem releaseChain_restart (chain : List Block) (s : State) : (releaseChain chain s).restart = s.restart := rfl
@[simp] theorem releaseChain_events (chain : List Block) (s : State) : (releaseChain chain s).events = s.events := rfl
@[simp] theorem releaseChain_counters (chain : List Block) (s : State) : (releaseChain chain s).counters = s.counters := rfl

/-! ### releaseFrame -/

@[simp] theorem releaseFrame_pending (h : Block) (s : State) : (releaseFrame h s).pending = s.pending := rfl
@[simp] theorem releaseFrame_draws (h : Block) (s : State) : (releaseFrame h s).draws = s.draws := rfl
@[simp] theorem releaseFrame_supply (h : Block) (s : State) : (releaseFrame h s).supply = s.supply := rfl
@[simp] theorem releaseFrame_tk (h : Block) (s : State) : (releaseFrame h s).tk = s.tk := rfl
@[simp] theorem releaseFrame_uptime (h : Block) (s : State) : (releaseFrame h s).uptime = s.uptime := rfl
@[simp] theorem releaseFrame_uptimeDivider (h : Block) (s : State) : (releaseFrame h s).uptimeDivider = s.uptimeDivider := rfl
@[simp] theorem releaseFrame_station (h : Block) (s : State) : (releaseFrame h s).station = s.station := rfl
@[simp] theorem releaseFrame_settings (h : Block) (s : State) : (releaseFrame h s).settings = s.settings := rfl
@[simp] theorem releaseFrame_rx (h : Block) (s : State) : (releaseFrame h s).rx = s.rx := rfl
@[simp] theorem releaseFrame_queues (h : Block) (s : State) : (releaseFrame h s).queues = s.queues := rfl
@[simp] theorem releaseFrame_classifier (h : Block) (s : State) : (releaseFrame h s).classifier = s.classifier := rfl
@[simp] theorem releaseFrame_windows (h : Block) (s : State) : (releaseFrame h s).windows = s.windows := rfl
@[simp] theorem releaseFrame_charge (h : Block) (s : State) : (releaseFrame h s).charge = s.charge := rfl
@[simp] theorem releaseFrame_txA (h : Block) (s : State) : (releaseFrame h s).txA = s.txA := rfl
@[simp] theorem releaseFrame_txB (h : Block) (s : State) : (releaseFrame h s).txB = s.txB := rfl
@[simp] theorem releaseFrame_grantTimer (h : Block) (s : State) : (releaseFrame h s).grantTimer = s.grantTimer := rfl
@[simp] theorem releaseFrame_holdoffTimer (h : Block) (s : State) : (releaseFrame h s).holdoffTimer = s.holdoffTimer := rfl
@[simp] theorem releaseFrame_trunkMode (h : Block) (s : State) : (releaseFrame h s).trunkMode = s.trunkMode := rfl
@[simp] theorem releaseFrame_grant (h : Block) (s : State) : (releaseFrame h s).grant = s.grant := rfl
@[simp] theorem releaseFrame_sent (h : Block) (s : State) : (releaseFrame h s).sent = s.sent := rfl
@[simp] theorem releaseFrame_mgmt (h : Block) (s : State) : (releaseFrame h s).mgmt = s.mgmt := rfl
@[simp] theorem releaseFrame_restart (h : Block) (s : State) : (releaseFrame h s).restart = s.restart := rfl
@[simp] theorem releaseFrame_events (h : Block) (s : State) : (releaseFrame h s).events = s.events := rfl
@[simp] theorem releaseFrame_counters (h : Block) (s : State) : (releaseFrame h s).counters = s.counters := rfl

/-! ### putOctet -/

@[simp] theorem putOctet_pending (h : Block) (o : Octet) (s : State) : (putOctet h o s).pending = s.pending := rfl
@[simp] theorem putOctet_draws (h : Block) (o : Octet) (s : State) : (putOctet h o s).draws = s.draws := rfl
@[simp] theorem putOctet_supply (h : Block) (o : Octet) (s : State) : (putOctet h o s).supply = s.supply := rfl
@[simp] theorem putOctet_tk (h : Block) (o : Octet) (s : State) : (putOctet h o s).tk = s.tk := rfl
@[simp] theorem putOctet_uptime (h : Block) (o : Octet) (s : State) : (putOctet h o s).uptime = s.uptime := rfl
@[simp] theorem putOctet_uptimeDivider (h : Block) (o : Octet) (s : State) : (putOctet h o s).uptimeDivider = s.uptimeDivider := rfl
@[simp] theorem putOctet_station (h : Block) (o : Octet) (s : State) : (putOctet h o s).station = s.station := rfl
@[simp] theorem putOctet_settings (h : Block) (o : Octet) (s : State) : (putOctet h o s).settings = s.settings := rfl
@[simp] theorem putOctet_rx (h : Block) (o : Octet) (s : State) : (putOctet h o s).rx = s.rx := rfl
@[simp] theorem putOctet_queues (h : Block) (o : Octet) (s : State) : (putOctet h o s).queues = s.queues := rfl
@[simp] theorem putOctet_classifier (h : Block) (o : Octet) (s : State) : (putOctet h o s).classifier = s.classifier := rfl
@[simp] theorem putOctet_windows (h : Block) (o : Octet) (s : State) : (putOctet h o s).windows = s.windows := rfl
@[simp] theorem putOctet_charge (h : Block) (o : Octet) (s : State) : (putOctet h o s).charge = s.charge := rfl
@[simp] theorem putOctet_txA (h : Block) (o : Octet) (s : State) : (putOctet h o s).txA = s.txA := rfl
@[simp] theorem putOctet_txB (h : Block) (o : Octet) (s : State) : (putOctet h o s).txB = s.txB := rfl
@[simp] theorem putOctet_grantTimer (h : Block) (o : Octet) (s : State) : (putOctet h o s).grantTimer = s.grantTimer := rfl
@[simp] theorem putOctet_holdoffTimer (h : Block) (o : Octet) (s : State) : (putOctet h o s).holdoffTimer = s.holdoffTimer := rfl
@[simp] theorem putOctet_trunkMode (h : Block) (o : Octet) (s : State) : (putOctet h o s).trunkMode = s.trunkMode := rfl
@[simp] theorem putOctet_grant (h : Block) (o : Octet) (s : State) : (putOctet h o s).grant = s.grant := rfl
@[simp] theorem putOctet_sent (h : Block) (o : Octet) (s : State) : (putOctet h o s).sent = s.sent := rfl
@[simp] theorem putOctet_mgmt (h : Block) (o : Octet) (s : State) : (putOctet h o s).mgmt = s.mgmt := rfl
@[simp] theorem putOctet_restart (h : Block) (o : Octet) (s : State) : (putOctet h o s).restart = s.restart := rfl
@[simp] theorem putOctet_events (h : Block) (o : Octet) (s : State) : (putOctet h o s).events = s.events := rfl
@[simp] theorem putOctet_counters (h : Block) (o : Octet) (s : State) : (putOctet h o s).counters = s.counters := rfl

/-! ### openRecord -/

@[simp] theorem openRecord_pending (l : Line) (b : Block) (s : State) : (openRecord l b s).pending = s.pending := rfl
@[simp] theorem openRecord_draws (l : Line) (b : Block) (s : State) : (openRecord l b s).draws = s.draws := rfl
@[simp] theorem openRecord_supply (l : Line) (b : Block) (s : State) : (openRecord l b s).supply = s.supply := rfl
@[simp] theorem openRecord_tk (l : Line) (b : Block) (s : State) : (openRecord l b s).tk = s.tk := rfl
@[simp] theorem openRecord_uptime (l : Line) (b : Block) (s : State) : (openRecord l b s).uptime = s.uptime := rfl
@[simp] theorem openRecord_uptimeDivider (l : Line) (b : Block) (s : State) : (openRecord l b s).uptimeDivider = s.uptimeDivider := rfl
@[simp] theorem openRecord_station (l : Line) (b : Block) (s : State) : (openRecord l b s).station = s.station := rfl
@[simp] theorem openRecord_settings (l : Line) (b : Block) (s : State) : (openRecord l b s).settings = s.settings := rfl
@[simp] theorem openRecord_rx (l : Line) (b : Block) (s : State) : (openRecord l b s).rx = s.rx := rfl
@[simp] theorem openRecord_queues (l : Line) (b : Block) (s : State) : (openRecord l b s).queues = s.queues := rfl
@[simp] theorem openRecord_classifier (l : Line) (b : Block) (s : State) : (openRecord l b s).classifier = s.classifier := rfl
@[simp] theorem openRecord_windows (l : Line) (b : Block) (s : State) : (openRecord l b s).windows = s.windows := rfl
@[simp] theorem openRecord_charge (l : Line) (b : Block) (s : State) : (openRecord l b s).charge = s.charge := rfl
@[simp] theorem openRecord_txA (l : Line) (b : Block) (s : State) : (openRecord l b s).txA = s.txA := rfl
@[simp] theorem openRecord_txB (l : Line) (b : Block) (s : State) : (openRecord l b s).txB = s.txB := rfl
@[simp] theorem openRecord_grantTimer (l : Line) (b : Block) (s : State) : (openRecord l b s).grantTimer = s.grantTimer := rfl
@[simp] theorem openRecord_holdoffTimer (l : Line) (b : Block) (s : State) : (openRecord l b s).holdoffTimer = s.holdoffTimer := rfl
@[simp] theorem openRecord_trunkMode (l : Line) (b : Block) (s : State) : (openRecord l b s).trunkMode = s.trunkMode := rfl
@[simp] theorem openRecord_grant (l : Line) (b : Block) (s : State) : (openRecord l b s).grant = s.grant := rfl
@[simp] theorem openRecord_sent (l : Line) (b : Block) (s : State) : (openRecord l b s).sent = s.sent := rfl
@[simp] theorem openRecord_mgmt (l : Line) (b : Block) (s : State) : (openRecord l b s).mgmt = s.mgmt := rfl
@[simp] theorem openRecord_restart (l : Line) (b : Block) (s : State) : (openRecord l b s).restart = s.restart := rfl
@[simp] theorem openRecord_events (l : Line) (b : Block) (s : State) : (openRecord l b s).events = s.events := rfl
@[simp] theorem openRecord_counters (l : Line) (b : Block) (s : State) : (openRecord l b s).counters = s.counters := rfl

/-! ### extendChain -/

@[simp] theorem extendChain_pending (h b : Block) (s : State) : (extendChain h b s).pending = s.pending := rfl
@[simp] theorem extendChain_draws (h b : Block) (s : State) : (extendChain h b s).draws = s.draws := rfl
@[simp] theorem extendChain_supply (h b : Block) (s : State) : (extendChain h b s).supply = s.supply := rfl
@[simp] theorem extendChain_tk (h b : Block) (s : State) : (extendChain h b s).tk = s.tk := rfl
@[simp] theorem extendChain_uptime (h b : Block) (s : State) : (extendChain h b s).uptime = s.uptime := rfl
@[simp] theorem extendChain_uptimeDivider (h b : Block) (s : State) : (extendChain h b s).uptimeDivider = s.uptimeDivider := rfl
@[simp] theorem extendChain_station (h b : Block) (s : State) : (extendChain h b s).station = s.station := rfl
@[simp] theorem extendChain_settings (h b : Block) (s : State) : (extendChain h b s).settings = s.settings := rfl
@[simp] theorem extendChain_rx (h b : Block) (s : State) : (extendChain h b s).rx = s.rx := rfl
@[simp] theorem extendChain_queues (h b : Block) (s : State) : (extendChain h b s).queues = s.queues := rfl
@[simp] theorem extendChain_classifier (h b : Block) (s : State) : (extendChain h b s).classifier = s.classifier := rfl
@[simp] theorem extendChain_windows (h b : Block) (s : State) : (extendChain h b s).windows = s.windows := rfl
@[simp] theorem extendChain_charge (h b : Block) (s : State) : (extendChain h b s).charge = s.charge := rfl
@[simp] theorem extendChain_txA (h b : Block) (s : State) : (extendChain h b s).txA = s.txA := rfl
@[simp] theorem extendChain_txB (h b : Block) (s : State) : (extendChain h b s).txB = s.txB := rfl
@[simp] theorem extendChain_grantTimer (h b : Block) (s : State) : (extendChain h b s).grantTimer = s.grantTimer := rfl
@[simp] theorem extendChain_holdoffTimer (h b : Block) (s : State) : (extendChain h b s).holdoffTimer = s.holdoffTimer := rfl
@[simp] theorem extendChain_trunkMode (h b : Block) (s : State) : (extendChain h b s).trunkMode = s.trunkMode := rfl
@[simp] theorem extendChain_grant (h b : Block) (s : State) : (extendChain h b s).grant = s.grant := rfl
@[simp] theorem extendChain_sent (h b : Block) (s : State) : (extendChain h b s).sent = s.sent := rfl
@[simp] theorem extendChain_mgmt (h b : Block) (s : State) : (extendChain h b s).mgmt = s.mgmt := rfl
@[simp] theorem extendChain_restart (h b : Block) (s : State) : (extendChain h b s).restart = s.restart := rfl
@[simp] theorem extendChain_events (h b : Block) (s : State) : (extendChain h b s).events = s.events := rfl
@[simp] theorem extendChain_counters (h b : Block) (s : State) : (extendChain h b s).counters = s.counters := rfl

/-! ### cancelSending -/

@[simp] theorem cancelSending_pending (l : Line) (stream : List Octet) (s : State) : (cancelSending l stream s).pending = s.pending := rfl
@[simp] theorem cancelSending_supply (l : Line) (stream : List Octet) (s : State) : (cancelSending l stream s).supply = s.supply := rfl
@[simp] theorem cancelSending_tk (l : Line) (stream : List Octet) (s : State) : (cancelSending l stream s).tk = s.tk := rfl
@[simp] theorem cancelSending_uptime (l : Line) (stream : List Octet) (s : State) : (cancelSending l stream s).uptime = s.uptime := rfl
@[simp] theorem cancelSending_uptimeDivider (l : Line) (stream : List Octet) (s : State) : (cancelSending l stream s).uptimeDivider = s.uptimeDivider := rfl
@[simp] theorem cancelSending_station (l : Line) (stream : List Octet) (s : State) : (cancelSending l stream s).station = s.station := rfl
@[simp] theorem cancelSending_settings (l : Line) (stream : List Octet) (s : State) : (cancelSending l stream s).settings = s.settings := rfl
@[simp] theorem cancelSending_rx (l : Line) (stream : List Octet) (s : State) : (cancelSending l stream s).rx = s.rx := rfl
@[simp] theorem cancelSending_store (l : Line) (stream : List Octet) (s : State) : (cancelSending l stream s).store = s.store := rfl
@[simp] theorem cancelSending_queues (l : Line) (stream : List Octet) (s : State) : (cancelSending l stream s).queues = s.queues := rfl
@[simp] theorem cancelSending_classifier (l : Line) (stream : List Octet) (s : State) : (cancelSending l stream s).classifier = s.classifier := rfl
@[simp] theorem cancelSending_windows (l : Line) (stream : List Octet) (s : State) : (cancelSending l stream s).windows = s.windows := rfl
@[simp] theorem cancelSending_charge (l : Line) (stream : List Octet) (s : State) : (cancelSending l stream s).charge = s.charge := rfl
@[simp] theorem cancelSending_txA (l : Line) (stream : List Octet) (s : State) : (cancelSending l stream s).txA = s.txA := rfl
@[simp] theorem cancelSending_txB (l : Line) (stream : List Octet) (s : State) : (cancelSending l stream s).txB = s.txB := rfl
@[simp] theorem cancelSending_grantTimer (l : Line) (stream : List Octet) (s : State) : (cancelSending l stream s).grantTimer = s.grantTimer := rfl
@[simp] theorem cancelSending_holdoffTimer (l : Line) (stream : List Octet) (s : State) : (cancelSending l stream s).holdoffTimer = s.holdoffTimer := rfl
@[simp] theorem cancelSending_trunkMode (l : Line) (stream : List Octet) (s : State) : (cancelSending l stream s).trunkMode = s.trunkMode := rfl
@[simp] theorem cancelSending_grant (l : Line) (stream : List Octet) (s : State) : (cancelSending l stream s).grant = s.grant := rfl
@[simp] theorem cancelSending_mgmt (l : Line) (stream : List Octet) (s : State) : (cancelSending l stream s).mgmt = s.mgmt := rfl
@[simp] theorem cancelSending_restart (l : Line) (stream : List Octet) (s : State) : (cancelSending l stream s).restart = s.restart := rfl
@[simp] theorem cancelSending_events (l : Line) (stream : List Octet) (s : State) : (cancelSending l stream s).events = s.events := rfl
@[simp] theorem cancelSending_counters (l : Line) (stream : List Octet) (s : State) : (cancelSending l stream s).counters = s.counters := rfl

/-! ### slotEnded -/

@[simp] theorem slotEnded_pending (l : Line) (i : SlotIx) (s : State) : (slotEnded l i s).pending = s.pending := rfl
@[simp] theorem slotEnded_draws (l : Line) (i : SlotIx) (s : State) : (slotEnded l i s).draws = s.draws := rfl
@[simp] theorem slotEnded_supply (l : Line) (i : SlotIx) (s : State) : (slotEnded l i s).supply = s.supply := rfl
@[simp] theorem slotEnded_tk (l : Line) (i : SlotIx) (s : State) : (slotEnded l i s).tk = s.tk := rfl
@[simp] theorem slotEnded_uptime (l : Line) (i : SlotIx) (s : State) : (slotEnded l i s).uptime = s.uptime := rfl
@[simp] theorem slotEnded_uptimeDivider (l : Line) (i : SlotIx) (s : State) : (slotEnded l i s).uptimeDivider = s.uptimeDivider := rfl
@[simp] theorem slotEnded_station (l : Line) (i : SlotIx) (s : State) : (slotEnded l i s).station = s.station := rfl
@[simp] theorem slotEnded_settings (l : Line) (i : SlotIx) (s : State) : (slotEnded l i s).settings = s.settings := rfl
@[simp] theorem slotEnded_rx (l : Line) (i : SlotIx) (s : State) : (slotEnded l i s).rx = s.rx := rfl
@[simp] theorem slotEnded_store (l : Line) (i : SlotIx) (s : State) : (slotEnded l i s).store = s.store := rfl
@[simp] theorem slotEnded_queues (l : Line) (i : SlotIx) (s : State) : (slotEnded l i s).queues = s.queues := rfl
@[simp] theorem slotEnded_classifier (l : Line) (i : SlotIx) (s : State) : (slotEnded l i s).classifier = s.classifier := rfl
@[simp] theorem slotEnded_windows (l : Line) (i : SlotIx) (s : State) : (slotEnded l i s).windows = s.windows := rfl
@[simp] theorem slotEnded_charge (l : Line) (i : SlotIx) (s : State) : (slotEnded l i s).charge = s.charge := rfl
@[simp] theorem slotEnded_txA (l : Line) (i : SlotIx) (s : State) : (slotEnded l i s).txA = s.txA := rfl
@[simp] theorem slotEnded_txB (l : Line) (i : SlotIx) (s : State) : (slotEnded l i s).txB = s.txB := rfl
@[simp] theorem slotEnded_grantTimer (l : Line) (i : SlotIx) (s : State) : (slotEnded l i s).grantTimer = s.grantTimer := rfl
@[simp] theorem slotEnded_holdoffTimer (l : Line) (i : SlotIx) (s : State) : (slotEnded l i s).holdoffTimer = s.holdoffTimer := rfl
@[simp] theorem slotEnded_trunkMode (l : Line) (i : SlotIx) (s : State) : (slotEnded l i s).trunkMode = s.trunkMode := rfl
@[simp] theorem slotEnded_grant (l : Line) (i : SlotIx) (s : State) : (slotEnded l i s).grant = s.grant := rfl
@[simp] theorem slotEnded_sent (l : Line) (i : SlotIx) (s : State) : (slotEnded l i s).sent = s.sent := rfl
@[simp] theorem slotEnded_events (l : Line) (i : SlotIx) (s : State) : (slotEnded l i s).events = s.events := rfl
@[simp] theorem slotEnded_counters (l : Line) (i : SlotIx) (s : State) : (slotEnded l i s).counters = s.counters := rfl

/-! ### enterHoldoff -/

@[simp] theorem enterHoldoff_pending (s : State) : (enterHoldoff s).pending = s.pending := rfl
@[simp] theorem enterHoldoff_draws (s : State) : (enterHoldoff s).draws = s.draws := rfl
@[simp] theorem enterHoldoff_supply (s : State) : (enterHoldoff s).supply = s.supply := rfl
@[simp] theorem enterHoldoff_tk (s : State) : (enterHoldoff s).tk = s.tk := rfl
@[simp] theorem enterHoldoff_uptime (s : State) : (enterHoldoff s).uptime = s.uptime := rfl
@[simp] theorem enterHoldoff_uptimeDivider (s : State) : (enterHoldoff s).uptimeDivider = s.uptimeDivider := rfl
@[simp] theorem enterHoldoff_station (s : State) : (enterHoldoff s).station = s.station := rfl
@[simp] theorem enterHoldoff_settings (s : State) : (enterHoldoff s).settings = s.settings := rfl
@[simp] theorem enterHoldoff_rx (s : State) : (enterHoldoff s).rx = s.rx := rfl
@[simp] theorem enterHoldoff_store (s : State) : (enterHoldoff s).store = s.store := rfl
@[simp] theorem enterHoldoff_queues (s : State) : (enterHoldoff s).queues = s.queues := rfl
@[simp] theorem enterHoldoff_classifier (s : State) : (enterHoldoff s).classifier = s.classifier := rfl
@[simp] theorem enterHoldoff_windows (s : State) : (enterHoldoff s).windows = s.windows := rfl
@[simp] theorem enterHoldoff_charge (s : State) : (enterHoldoff s).charge = s.charge := rfl
@[simp] theorem enterHoldoff_txA (s : State) : (enterHoldoff s).txA = s.txA := rfl
@[simp] theorem enterHoldoff_grantTimer (s : State) : (enterHoldoff s).grantTimer = s.grantTimer := rfl
@[simp] theorem enterHoldoff_holdoffTimer (s : State) : (enterHoldoff s).holdoffTimer = s.settings.holdOff := rfl
@[simp] theorem enterHoldoff_trunkMode (s : State) : (enterHoldoff s).trunkMode = s.trunkMode := rfl
@[simp] theorem enterHoldoff_grant (s : State) : (enterHoldoff s).grant = s.grant := rfl
@[simp] theorem enterHoldoff_sent (s : State) : (enterHoldoff s).sent = s.sent := rfl
@[simp] theorem enterHoldoff_mgmt (s : State) : (enterHoldoff s).mgmt = s.mgmt := rfl
@[simp] theorem enterHoldoff_restart (s : State) : (enterHoldoff s).restart = s.restart := rfl
@[simp] theorem enterHoldoff_events (s : State) : (enterHoldoff s).events = s.events := rfl
@[simp] theorem enterHoldoff_counters (s : State) : (enterHoldoff s).counters = s.counters := rfl

end Sys2Proof.Machine
end

