-- ==== Sys2Proof/Laws/Access.lean ====
section
/-! SUPPORT. What is read back after an update: tables, the records of a line, and counters. -/

namespace Sys2Proof.Machine

/-! ### Tables -/

@[simp] theorem tabulate_get {α : Type} {n : Nat} (f : Fin n → α) (i : Nat) (h : i < n) :
    (tabulate n f)[i] = f ⟨i, h⟩ := by
  simp [tabulate]

@[simp] theorem tabulate_get_fin {α : Type} {n : Nat} (f : Fin n → α) (i : Fin n) : (tabulate n f)[i] = f i := by
  simp [tabulate]

@[simp] theorem mapTable_get {α : Type} {n : Nat} (f : Fin n → α → α) (v : Vector α n) (i : Nat) (h : i < n) :
    (mapTable f v)[i] = f ⟨i, h⟩ v[i] := by
  simp [mapTable]

@[simp] theorem mapTable_get_fin {α : Type} {n : Nat} (f : Fin n → α → α) (v : Vector α n) (i : Fin n) :
    (mapTable f v)[i] = f i v[i] := by
  simp [mapTable]

theorem table_set_get {α : Type} {n : Nat} (v : Vector α n) (i j : Fin n) (x : α) :
    (v.set i.val x i.isLt)[j] = if j = i then x else v[j] := by
  simp only [Fin.getElem_fin, Vector.getElem_set, Fin.ext_iff, eq_comm]

@[simp] theorem table_set_get_same {α : Type} {n : Nat} (v : Vector α n) (i : Fin n) (x : α) :
    (v.set i.val x i.isLt)[i] = x := by
  simp

theorem table_ext {α : Type} {n : Nat} {v w : Vector α n} (h : ∀ i : Fin n, v[i] = w[i]) : v = w :=
  Vector.ext fun i hi => h ⟨i, hi⟩

/-! ### The two lines -/

@[simp] theorem perLine_get_set_same {α : Type} (p : PerLine α) (l : Line) (x : α) : (p.set l x).get l = x := by
  cases l <;> rfl

theorem perLine_get_set {α : Type} (p : PerLine α) (l l' : Line) (x : α) :
    (p.set l x).get l' = if l' = l then x else p.get l' := by
  cases l <;> cases l' <;> rfl

@[simp] theorem perLine_set_set {α : Type} (p : PerLine α) (l : Line) (x y : α) : (p.set l x).set l y = p.set l y := by
  cases l <;> rfl

@[simp] theorem perLine_set_get {α : Type} (p : PerLine α) (l : Line) : p.set l (p.get l) = p := by
  cases l <;> rfl

theorem perLine_ext {α : Type} {p q : PerLine α} (h : ∀ l, p.get l = q.get l) : p = q := by
  cases p
  cases q
  simpa [PerLine.get] using And.intro (h .a) (h .b)

/-! ### Receivers, agents, queues, records, windows -/

theorem receiver_setReceiver (l l' : Line) (r : Receiver) (s : State) :
    (setReceiver l r s).receiver l' = if l' = l then r else s.receiver l' := perLine_get_set ..

@[simp] theorem receiver_setReceiver_same (l : Line) (r : Receiver) (s : State) :
    (setReceiver l r s).receiver l = r := perLine_get_set_same ..

@[simp] theorem setReceiver_setReceiver (l : Line) (r r' : Receiver) (s : State) :
    setReceiver l r' (setReceiver l r s) = setReceiver l r' s := by
  simp [setReceiver]

theorem agent_setAgent (l l' : Line) (g : LineAgent) (s : State) :
    (setAgent l g s).agent l' = if l' = l then g else s.agent l' := perLine_get_set ..

@[simp] theorem agent_setAgent_same (l : Line) (g : LineAgent) (s : State) : (setAgent l g s).agent l = g :=
  perLine_get_set_same ..

theorem queue_setQueue (q q' : QueueIx) (x : Queue) (s : State) :
    (setQueue q x s).queue q' = if q' = q then x else s.queue q' := table_set_get ..

@[simp] theorem queue_setQueue_same (q : QueueIx) (x : Queue) (s : State) : (setQueue q x s).queue q = x :=
  table_set_get_same ..

theorem record_setRecord (h h' : Block) (r : FrameRecord) (s : State) :
    (setRecord h r s).record h' = if h' = h then r else s.record h' := table_set_get ..

@[simp] theorem record_setRecord_same (h : Block) (r : FrameRecord) (s : State) : (setRecord h r s).record h = r :=
  table_set_get_same ..

theorem windows_setWindow (i j : WindowIx) (w : Window) (s : State) :
    (setWindow i w s).windows[j] = if j = i then w else s.windows[j] := table_set_get ..

@[simp] theorem record_releaseChain (h : Block) (chain : List Block) (s : State) :
    (releaseChain chain s).record h = s.record h := rfl

@[simp] theorem record_releaseFrame (h h' : Block) (s : State) : (releaseFrame h' s).record h = s.record h := rfl

@[simp] theorem record_lowTest (h : Block) (s : State) : (lowTest s).record h = s.record h := rfl

/-! ### Counters -/

/-- R204: an increment stops at 2^32 − 1. -/
theorem addStopping_toNat (c : Word32) (n : Nat) : (addStopping c n).toNat = min (c.toNat + n) 0xFFFFFFFF := by
  have : c.toNat < 2 ^ 32 := c.isLt
  simp only [addStopping, BitVec.toNat_ofNat]
  omega

theorem counters_bumpBy (c : Counter) (n : Nat) (s : State) (k : Fin 121) :
    (bumpBy c n s).counters[k] = if k = c.place then addStopping (s.count c) n else s.counters[k] :=
  table_set_get ..

theorem count_bumpBy_same (c : Counter) (n : Nat) (s : State) :
    ((bumpBy c n s).count c).toNat = min ((s.count c).toNat + n) 0xFFFFFFFF := by
  simp [State.count, bumpBy, addStopping_toNat]

theorem count_bumpBy_other (c d : Counter) (n : Nat) (s : State) (h : d.place ≠ c.place) :
    (bumpBy c n s).count d = s.count d := by
  simp only [State.count, counters_bumpBy, if_neg h]

/-- The counters of the bank stand at different places (11.4). -/
theorem Counter.place_injective {c d : Counter} (h : c.place = d.place) : c = d := by
  have line : ∀ {a b : LineCounter}, a.index = b.index → a = b := by
    intro a b; cases a <;> cases b <;> simp [LineCounter.index]
  have queue : ∀ {a b : QueueCounter}, a.index = b.index → a = b := by
    intro a b; cases a <;> cases b <;> simp [QueueCounter.index]
  have mgmt : ∀ {a b : MgmtCounter}, a.index = b.index → a = b := by
    intro a b; cases a <;> cases b <;> simp [MgmtCounter.index]
  have hv : c.place.val = d.place.val := congrArg Fin.val h
  clear h
  rcases c with ⟨l, c⟩ | _ | _ | ⟨q, c⟩ | i | _ | _ | c <;> rcases d with ⟨l', d⟩ | _ | _ | ⟨q', d⟩ | j | _ | _ | d <;>
    (try cases l) <;> (try cases l') <;> first
    | rfl
    | (exact congrArg _ (line (Fin.ext (by simpa [Counter.place] using hv))))
    | (exact congrArg _ (mgmt (Fin.ext (by simpa [Counter.place] using hv))))
    | (have hv' : 16 + (6 * q.val + c.index.val) = 16 + (6 * q'.val + d.index.val) := hv
       rw [show q = q' from Fin.ext (by omega), queue (Fin.ext (by omega) : c.index = d.index)])
    | (exact congrArg _ (Fin.ext (by simpa [Counter.place] using hv)))
    | (exfalso; simp only [Counter.place] at hv; simp at hv; omega)
    | (exfalso; simp only [Counter.place] at hv; omega)

end Sys2Proof.Machine
end

