-- ==== Sys2Proof/Laws/Bits.lean ====
section
/-! SUPPORT. The bits of a line: what a receiver holds after an octet's eight bits (R128), what a hunt answers, said once in
the terms of Sys2Proof/Safety.lean, and what a line carries (R142, R143). -/

namespace Sys2Proof.Machine

/-! ## An octet assembled (R128) -/

/-- A bit taken in becomes the least significant, and every other moves up by one place. -/
theorem getLsbD_pushBit (r : Word16) (b : Bool) (i : Nat) :
    (pushBit r b).getLsbD i = if i = 0 then b else decide (i < 16) && r.getLsbD (i - 1) := by
  rcases i with _ | i <;> cases b <;> simp [pushBit, BitVec.getLsbD_one]

/-- Eight bits taken in are the octet they were, and the eight most recent before them move up. -/
theorem pushOctet_eq (r : Word16) (o : Octet) : pushOctet r o = r.extractLsb' 0 8 ++ o := by
  apply BitVec.eq_of_getLsbD_eq
  intro i hi
  simp only [pushOctet, List.foldl]
  interval_cases i <;> simp only [getLsbD_pushBit, BitVec.getLsbD_append, BitVec.getLsbD_extractLsb'] <;> rfl

@[simp] theorem latestBits_pushOctet (r : Word16) (o : Octet) : latestBits (pushOctet r o) = o := by
  rw [pushOctet_eq]
  exact BitVec.extractLsb'_append_eq_right

@[simp] theorem earlierBits_pushOctet (r : Word16) (o : Octet) : earlierBits (pushOctet r o) = latestBits r := by
  rw [pushOctet_eq]
  exact BitVec.extractLsb'_append_eq_left

/-- What an aligned octet does: the bits are noted, and the octet they form is taken. -/
theorem alignedOctet_eq (l : Line) (o : Octet) (take : Octet → State → State) (s : State) :
    alignedOctet l o take s =
      take o (setReceiver l { s.receiver l with recent := recentAfter (s.receiver l) o } s) := by
  rw [alignedOctet, latestBits_pushOctet, pushOctet_eq, recentAfter]

/-! ## The hunt (R128) -/

theorem bitsAfter_cons (r : Word16) (b : Bool) (bs : List Bool) (n : Nat) :
    bitsAfter r (b :: bs) (n + 1) = bitsAfter (pushBit r b) bs n := rfl

/-- What a hunt answers where it first finds a delimiter after n bits. -/
theorem hunt_found {bits : List Bool} : ∀ {r : Word16} {n : Nat}, DelimiterFirstAt r bits n →
    hunt r bits = (bitsAfter r bits n, true) := by
  induction bits with
  | nil => intro r n h; exact absurd h.within (by simp; omega)
  | cons b bs ih =>
    intro r n h
    obtain ⟨m, rfl⟩ : ∃ m, n = m + 1 := ⟨n - 1, by have := h.within.1; omega⟩
    rw [bitsAfter_cons]
    by_cases hf : latestBits (pushBit r b) = 0xC3
    · obtain rfl : m = 0 := by
        by_contra hm
        exact h.first 1 (by omega) (by omega) hf
      simp [hunt, hf, bitsAfter]
    · have hm : m ≠ 0 := by
        rintro rfl
        exact hf h.found
      rw [hunt, if_neg hf]
      refine ih ⟨⟨by omega, by simpa using h.within.2⟩, h.found, fun k hk hkm => ?_⟩
      exact h.first (k + 1) (by omega) (by omega)

/-- What a hunt answers where it finds no delimiter. -/
theorem hunt_passed {bits : List Bool} : ∀ {r : Word16}, (∀ n, ¬DelimiterFirstAt r bits n) →
    hunt r bits = (bitsAfter r bits bits.length, false) := by
  induction bits with
  | nil => intro r _; rfl
  | cons b bs ih =>
    intro r h
    have hf : latestBits (pushBit r b) ≠ 0xC3 := fun hf =>
      h 1 ⟨⟨le_refl 1, by simp⟩, hf, fun m h1 h2 => absurd h2 (by omega)⟩
    rw [hunt, if_neg hf, List.length_cons, bitsAfter_cons]
    refine ih fun n hn => h (n + 1) ⟨⟨by omega, by simpa using hn.within.2⟩, hn.found, fun m h1 h2 => ?_⟩
    rcases m with _ | _ | m
    · omega
    · exact hf
    · exact hn.first (m + 1) (by omega) (by omega)

/-- What a hunting receiver does where it first finds a delimiter after n bits. -/
theorem hunting_found {l : Line} {bits : List Bool} {found : State → State} {s : State} {n : Nat}
    (h : DelimiterFirstAt (s.receiver l).recent bits n) :
    hunting l bits found s =
      found (setReceiver l { s.receiver l with recent := bitsAfter (s.receiver l).recent bits n } s) := by
  simp only [hunting, hunt_found h, if_true]

/-- What a hunting receiver does where it finds none. -/
theorem hunting_passed {l : Line} {bits : List Bool} {found : State → State} {s : State}
    (h : ∀ n, ¬DelimiterFirstAt (s.receiver l).recent bits n) :
    hunting l bits found s =
      setReceiver l { s.receiver l with recent := bitsAfter (s.receiver l).recent bits bits.length } s := by
  simp [hunting, hunt_passed h]

/-! ## What a line carries (R142, R143) -/

/-- Past the end of its transmission a line carries idle fill. -/
theorem lineOctet_idle (s : State) (l : Line) (k : Nat) (h : (s.transmission l).length ≤ k) : s.lineOctet l k = 0xC3 := by
  simp [State.lineOctet, h, idleFill]

/-- Within it, its own octets. -/
theorem lineOctet_own (s : State) (l : Line) (k : Nat) (h : k < (s.transmission l).length) :
    s.lineOctet l k = (s.transmission l)[k] := by
  simp [State.lineOctet, h]

end Sys2Proof.Machine
end

