-- ==== Sys2Proof/Laws/Counting.lean ====
section
/-! SUPPORT. What one, two or three increments of different counters leave of the bank (R204), in the terms of
Sys2Proof/Safety.lean. -/

namespace Sys2Proof.Machine

theorem counted_one {c : Counter} {n : Nat} {s t : State} (h : t.counters = (bumpBy c n s).counters) :
    Counted c n s t ∧ OthersUncounted [c] s t := by
  refine ⟨?_, fun k hk => ?_⟩
  · unfold Counted State.count
    rw [h]
    exact count_bumpBy_same c n s
  · rw [h, counters_bumpBy, if_neg fun e => hk c (by simp) e.symm]

theorem counted_two {c d : Counter} {n m : Nat} {s t : State} (hcd : c ≠ d)
    (h : t.counters = (bumpBy d m (bumpBy c n s)).counters) :
    Counted c n s t ∧ Counted d m s t ∧ OthersUncounted [c, d] s t := by
  have hp : c.place ≠ d.place := fun e => hcd (Counter.place_injective e)
  obtain ⟨hd, ho⟩ := counted_one h
  refine ⟨?_, ?_, fun k hk => ?_⟩
  · unfold Counted State.count
    rw [ho c.place (by simpa using hp.symm)]
    exact count_bumpBy_same c n s
  · unfold Counted at hd ⊢
    rw [hd, count_bumpBy_other _ _ _ _ hp.symm]
  · rw [ho k fun e he => hk e (by simp_all), counters_bumpBy, if_neg fun e => hk c (by simp) e.symm]

theorem counted_three {c d e : Counter} {n m p : Nat} {s t : State} (hcd : c ≠ d) (hce : c ≠ e) (hde : d ≠ e)
    (h : t.counters = (bumpBy e p (bumpBy d m (bumpBy c n s))).counters) :
    Counted c n s t ∧ Counted d m s t ∧ Counted e p s t ∧ OthersUncounted [c, d, e] s t := by
  have hce' : c.place ≠ e.place := fun e => hce (Counter.place_injective e)
  have hde' : d.place ≠ e.place := fun e => hde (Counter.place_injective e)
  obtain ⟨he, ho⟩ := counted_one h
  obtain ⟨hc, hd, ho'⟩ := counted_two (t := bumpBy d m (bumpBy c n s)) hcd rfl
  refine ⟨?_, ?_, ?_, fun k hk => ?_⟩
  · unfold Counted State.count at hc ⊢
    rw [ho c.place (by simpa using hce'.symm)]
    exact hc
  · unfold Counted State.count at hd ⊢
    rw [ho d.place (by simpa using hde'.symm)]
    exact hd
  · unfold Counted at he ⊢
    rw [he, count_bumpBy_other _ _ _ _ hde'.symm, count_bumpBy_other _ _ _ _ hce'.symm]
  · rw [ho k fun f hf => hk f (by simp_all), ho' k fun f hf => hk f (by simp only [List.mem_cons] at hf ⊢; tauto)]

/-- Increments of different counters can be taken in either order. -/
theorem bumpBy_comm {c d : Counter} (hcd : c ≠ d) (n m : Nat) (s : State) :
    (bumpBy c n (bumpBy d m s)).counters = (bumpBy d m (bumpBy c n s)).counters := by
  have hp : c.place ≠ d.place := fun e => hcd (Counter.place_injective e)
  refine table_ext fun k => ?_
  rw [counters_bumpBy, counters_bumpBy, counters_bumpBy, counters_bumpBy, count_bumpBy_other _ _ _ _ hp,
    count_bumpBy_other _ _ _ _ hp.symm]
  by_cases h1 : k = c.place
  · subst h1
    simp [hp]
  · simp [h1]

end Sys2Proof.Machine
end

