-- ==== Sys2Proof/Laws/Events.lean ====
section
/-! SUPPORT. The event unit: what a raise does, that a second raise of one event changes nothing (R191, R194), and what
an evaluation leaves, in the terms of Sys2Proof/Safety.lean. -/

namespace Sys2Proof.Machine

/-- R191: a raise of a pending event changes nothing. -/
theorem raise_of_pending {setting : Nat} {e : Event} {u : EventUnit} (h : u.states[e.number] ≠ .clear) :
    u.raise setting e = u :=
  if_neg h

/-- R194: an evaluation changes the notice unit alone. -/
@[simp] theorem evaluate_states (setting : Nat) (u : EventUnit) : (u.evaluate setting).states = u.states := by
  simp only [EventUnit.evaluate]
  split
  · rfl
  · split
    · split <;> rfl
    · rfl

@[simp] theorem evaluate_mask (setting : Nat) (u : EventUnit) : (u.evaluate setting).mask = u.mask := by
  simp only [EventUnit.evaluate]
  split
  · rfl
  · split
    · split <;> rfl
    · rfl

@[simp] theorem evaluate_number (setting : Nat) (u : EventUnit) :
    (u.evaluate setting).notice.number = u.notice.number := by
  simp only [EventUnit.evaluate]
  split
  · rfl
  · split
    · split <;> rfl
    · rfl

/-- R191: the states after a raise. -/
theorem raise_states (setting : Nat) (e : Event) (u : EventUnit) (n : Fin 16) :
    (u.raise setting e).states[n] = if n = e.number ∧ u.states[n] = .clear then .unreported else u.states[n] := by
  by_cases h : u.states[e.number] = .clear
  · simp only [EventUnit.raise, if_pos h, evaluate_states, table_set_get]
    by_cases hn : n = e.number
    · subst hn
      simp [h]
    · simp [hn]
  · rw [raise_of_pending h]
    split
    · rename_i hn
      exact absurd (hn.1 ▸ hn.2) h
    · rfl

/-- R191: after a raise the event is pending. -/
theorem raise_makes_pending (setting : Nat) (e : Event) (u : EventUnit) :
    (u.raise setting e).states[e.number] ≠ .clear := by
  rw [raise_states]
  split
  · simp
  · rename_i h
    exact fun hc => h ⟨rfl, hc⟩

/-- R191: a second raise of one event changes nothing. -/
@[simp] theorem raise_raise (setting : Nat) (e : Event) (u : EventUnit) :
    (u.raise setting e).raise setting e = u.raise setting e :=
  raise_of_pending (raise_makes_pending setting e u)

/-- R191: several raises of one event are one. -/
theorem raiseTimes_eq (setting : Nat) (e : Event) (n : Nat) (u : EventUnit) :
    EventUnit.raiseTimes setting e n u = if n = 0 then u else u.raise setting e := by
  induction n generalizing u with
  | zero => rfl
  | succ n ih =>
    rw [EventUnit.raiseTimes, ih]
    split <;> simp

/-! ### Event sets and evaluations in the terms of Safety.lean -/

/-- R208: bit n of an event set tells whether event n's state passes the test. -/
theorem setOf_bit (u : EventUnit) (p : EventState → Bool) (n : Fin 16) : (u.setOf p).getLsbD n.val = p u.states[n] := by
  simp [EventUnit.setOf]

/-- R192: a set meets the mask where some unmasked event passes the test. -/
theorem mask_meets_setOf (m : Word16) (u : EventUnit) (p : EventState → Bool) :
    (m &&& u.setOf p != 0) = true ↔ ∃ n : Fin 16, m.getLsbD n.val = true ∧ p u.states[n] = true := by
  rw [bne_iff_ne, ne_eq, ← not_iff_not, not_not]
  constructor
  · rintro h ⟨n, h1, h2⟩
    have hb := congrArg (fun w => w.getLsbD n.val) h
    simp only [BitVec.getLsbD_and, setOf_bit, h1, h2] at hb
    simp at hb
  · intro h
    refine BitVec.eq_of_getLsbD_eq fun i hi => ?_
    have hb := setOf_bit u p ⟨i, hi⟩
    simp only at hb
    simp only [BitVec.getLsbD_and, hb]
    by_contra hc
    simp at hc
    exact h ⟨⟨i, hi⟩, hc⟩

theorem somePending_iff (u : EventUnit) : u.SomePending ↔ u.unmaskedPending = true := by
  rw [EventUnit.unmaskedPending, EventUnit.pendingSet, mask_meets_setOf]
  simp [EventUnit.SomePending, EventState.isPending]

theorem someUnreported_iff (u : EventUnit) : u.SomeUnreported ↔ u.unmaskedNew = true := by
  rw [EventUnit.unmaskedNew, EventUnit.newSet, mask_meets_setOf]
  simp [EventUnit.SomeUnreported]

/-- R194: what an evaluation leaves, of a unit whose notice record was that of `before`. -/
theorem evaluate_evaluated (setting : Nat) (before v : EventUnit) (h : v.notice = before.notice) :
    Evaluated setting before (v.evaluate setting) := by
  have pending : (v.evaluate setting).SomePending ↔ v.unmaskedPending = true := by
    rw [← somePending_iff]
    simp [EventUnit.SomePending]
  have unreported : (v.evaluate setting).SomeUnreported ↔ v.unmaskedNew = true := by
    rw [← someUnreported_iff]
    simp [EventUnit.SomeUnreported]
  have newPending : v.unmaskedNew = true → v.unmaskedPending = true := by
    rw [← someUnreported_iff, ← somePending_iff]
    rintro ⟨n, h1, h2⟩
    exact ⟨n, h1, by rw [h2]; simp⟩
  refine ⟨by simp [h], ?_, ?_, ?_, ?_⟩
  · intro hu
    rw [unreported] at hu
    simp [EventUnit.evaluate, hu]
  · intro hp
    rw [pending] at hp
    have hn : v.unmaskedNew = false := by
      by_contra hc
      exact hp (newPending (by simpa using hc))
    simp [EventUnit.evaluate, hn, hp]
  · intro hp hu hq
    rw [pending] at hp
    rw [unreported] at hu
    simp [EventUnit.evaluate, hu, hp, h, hq, startRepeat]
  · intro hp hu hq
    rw [pending] at hp
    rw [unreported] at hu
    cases hs : before.notice.state with
    | quiet => exact absurd hs hq
    | owed => simp [EventUnit.evaluate, hu, hp, h, hs]
    | outstanding => simp [EventUnit.evaluate, hu, hp, h, hs]

/-- R191: what a raise leaves. -/
theorem raise_raised (setting : Nat) (e : Event) (u : EventUnit) : Raised setting e u (u.raise setting e) := by
  refine ⟨fun h => raise_of_pending h, ?_, ?_, ?_⟩
  · simp only [EventUnit.raise]
    split <;> simp
  · intro h
    simp only [EventUnit.raise, if_pos h, evaluate_states]
  · intro h
    simp only [EventUnit.raise, if_pos h]
    exact evaluate_evaluated _ _ _ rfl

/-- R191: what several raises of one event leave. -/
theorem raiseTimes_raised (setting : Nat) (e : Event) (n : Nat) (u : EventUnit) (hn : n ≠ 0) :
    Raised setting e u (EventUnit.raiseTimes setting e n u) := by
  rw [raiseTimes_eq, if_neg hn]
  exact raise_raised ..

end Sys2Proof.Machine
end

