-- ==== Sys2Proof/Laws/Memory.lean ====
section
/-! SUPPORT. The octets of the blocks: reading after a write, and the canonical form, which every operation on the
memory keeps. -/

namespace Sys2Proof.Machine

/-- A memory reads the blank octet at an address below all its entries. -/
theorem memRead_below (m : List Host.Cell) (a : Nat) (h : ∀ c ∈ m, a < c.1) : memRead m a = memBlank := by
  induction m with
  | nil => rfl
  | cons c t ih =>
    have hc : a < c.1 := h c (by simp)
    rw [memRead, if_neg (by omega)]
    exact ih fun d hd => h d (by simp [hd])

theorem memory_wf_cons (c : Host.Cell) (t : List Host.Cell) :
    Memory.wf (c :: t) = true ↔ c.2 ≠ memBlank ∧ (∀ d ∈ t, c.1 < d.1) ∧ Memory.wf t = true := by
  cases c
  simp [Memory.wf, and_assoc]

/-- The entries of a memory after a write. -/
theorem mem_memWrite (m : List Host.Cell) (a : Nat) (o : Octet) (c : Host.Cell) (h : c ∈ memWrite m a o) :
    c ∈ m ∨ (c = (a, o) ∧ o ≠ memBlank) := by
  induction m with
  | nil =>
    by_cases ho : o = memBlank <;> simp_all [memWrite]
  | cons d t ih =>
    obtain ⟨k, v⟩ := d
    simp only [memWrite] at h
    split at h
    · split at h
      · exact .inl h
      · rename_i ho
        rcases List.mem_cons.mp h with rfl | h
        · exact .inr ⟨rfl, ho⟩
        · exact .inl h
    · split at h
      · split at h
        · exact .inl (List.mem_cons_of_mem _ h)
        · rename_i ho
          rcases List.mem_cons.mp h with rfl | h
          · exact .inr ⟨rfl, ho⟩
          · exact .inl (List.mem_cons_of_mem _ h)
      · rcases List.mem_cons.mp h with rfl | h
        · exact .inl (by simp)
        · exact (ih h).imp_left (List.mem_cons_of_mem _)

/-- A write keeps the canonical form. -/
theorem memWrite_wf (m : List Host.Cell) (a : Nat) (o : Octet) (h : Memory.wf m = true) :
    Memory.wf (memWrite m a o) = true := by
  induction m with
  | nil =>
    by_cases ho : o = memBlank <;> simp [memWrite, ho, Memory.wf]
  | cons c t ih =>
    obtain ⟨k, v⟩ := c
    obtain ⟨hv, hk, ht⟩ := (memory_wf_cons (k, v) t).mp h
    simp only [memWrite]
    split
    · split
      · exact h
      · refine (memory_wf_cons _ _).mpr ⟨‹_›, fun d hd => ?_, h⟩
        rcases List.mem_cons.mp hd with rfl | hd
        · assumption
        · exact lt_trans ‹a < k› (hk d hd)
    · split
      · subst_vars
        split
        · exact ht
        · exact (memory_wf_cons _ _).mpr ⟨‹_›, hk, ht⟩
      · refine (memory_wf_cons _ _).mpr ⟨hv, fun d hd => ?_, ih ht⟩
        rcases mem_memWrite t a o d hd with hd | ⟨rfl, -⟩
        · exact hk d hd
        · show k < a
          omega

/-- A read after a write to the same address. -/
theorem memRead_memWrite_same (m : List Host.Cell) (a : Nat) (o : Octet) (h : Memory.wf m = true) :
    memRead (memWrite m a o) a = o := by
  induction m with
  | nil => by_cases ho : o = memBlank <;> simp [memWrite, memRead, ho]
  | cons c t ih =>
    obtain ⟨k, v⟩ := c
    obtain ⟨-, hk, ht⟩ := (memory_wf_cons (k, v) t).mp h
    simp only [memWrite]
    split
    · split
      · rename_i hak ho
        rw [ho]
        refine memRead_below _ _ fun d hd => ?_
        rcases List.mem_cons.mp hd with rfl | hd
        · exact hak
        · exact lt_trans hak (hk d hd)
      · simp [memRead]
    · split
      · subst_vars
        split
        · rename_i ho
          rw [ho]
          exact memRead_below _ _ hk
        · simp [memRead]
      · rw [memRead, if_neg (by omega)]
        exact ih ht

/-- A read after a write to another address, whatever the memory. -/
theorem memRead_memWrite_other (m : List Host.Cell) (a b : Nat) (o : Octet) (h : Memory.wf m = true) (hb : b ≠ a) :
    memRead (memWrite m a o) b = memRead m b := by
  induction m with
  | nil =>
    by_cases ho : o = memBlank
    · simp [memWrite, ho]
    · simp [memWrite, ho, memRead, Ne.symm hb]
  | cons c t ih =>
    obtain ⟨k, v⟩ := c
    obtain ⟨-, hk, ht⟩ := (memory_wf_cons (k, v) t).mp h
    simp only [memWrite]
    split
    · split
      · rfl
      · rw [memRead, if_neg (Ne.symm hb)]
    · split
      · subst_vars
        split
        · rw [memRead, if_neg (Ne.symm hb)]
        · rw [memRead, memRead, if_neg (Ne.symm hb), if_neg (Ne.symm hb)]
      · rw [memRead, memRead, ih ht]

/-- R114: storing an octet keeps the canonical form. -/
theorem put_wf (st : Store) (h : Block) (o : Octet) (hw : Memory.wf st.mem = true) :
    Memory.wf (st.put h o).mem = true := memWrite_wf _ _ _ hw

/-- R111: the address of a position of a block is one of the store's. -/
theorem blockAddr_lt (b : Block) (p : Nat) (h : p < 64) : blockAddr b p < 32768 := by
  have := b.isLt
  simp only [blockAddr]
  omega

/-- Different positions are different addresses. -/
theorem blockAddr_injective (b c : Block) (p q : Nat) (hp : p < 64) (hq : q < 64)
    (h : blockAddr b p = blockAddr c q) : b = c ∧ p = q := by
  simp only [blockAddr] at h
  exact ⟨Fin.ext (by omega), by omega⟩

/-- The memory right after reset is in canonical form. -/
theorem reset_memory_wf : Memory.wf State.reset.store.mem = true := rfl

end Sys2Proof.Machine
end

