-- ==== Sys2Proof/Laws/Requests.lean ====
section
/-! SUPPORT. The request event (R153 to R158): what becomes of a request at each step, said once for every request. -/

namespace Sys2Proof.Machine

/-- R153 to R158: a request that is ready is executed. -/
theorem requestCommand_ready {run : Execution} {r : Request} {i : SlotIx} {s : State} (h : Ready s r i) :
    requestCommand run r s = .next (execute run r i s) := by
  simp [requestCommand, inCore, h.authorised.powered, h.authorised.managed, takeRequest, h.authorised.authority,
    takeAuthorised, h.fresh, takeWithSlot, h.slot, h.noRestart]

/-- R156: the slot found is FREE. -/
theorem firstFree_free {g : LineAgent} {i : SlotIx} (h : g.firstFree = some i) : g.slots[i].state = .free := by
  simpa using List.find?_some h

theorem place_slots (g : LineAgent) (i j : SlotIx) (f : SlotFrame) :
    (g.place i f).slots[j] =
      if j = i then { state := .queued, content := some f, attempts := 0 } else g.slots[j] := table_set_get ..

theorem moveCache_slots (g : LineAgent) (c : Cache) (j : SlotIx) :
    (g.moveCache c).slots[j] =
      if g.isCacheSlot j = true ∧ g.slots[j].state = .cached then Slot.blank else g.slots[j] := by
  cases hc : g.cache with
  | none => simp [LineAgent.moveCache, LineAgent.isCacheSlot, hc]
  | some old =>
    simp only [LineAgent.moveCache, LineAgent.isCacheSlot, hc, beq_iff_eq]
    by_cases hs : g.slots[old.slot].state = .cached
    · simp only [if_pos hs, table_set_get]
      by_cases hj : j = old.slot
      · subst hj
        simpa using fun h => absurd hs h
      · simp [hj, Ne.symm hj]
    · simp only [if_neg hs]
      by_cases hj : old.slot = j
      · subst hj
        simpa using fun h => absurd h hs
      · simp [hj]

/-- R158: what an execution leaves, where its owner has left the agent and the slot found as they were. -/
theorem execute_answered {run : Execution} {r : Request} {i : SlotIx} {s : State}
    (hm : (run r.line i r.params s).state.mgmt = s.mgmt) (hs : (s.agent r.line).firstFree = some i) :
    Answered r i (run r.line i r.params s).status
      (if (run r.line i r.params s).status = .ok then (run r.line i r.params s).data else [])
      (run r.line i r.params s).state (execute run r i s) := by
  generalize hr : run r.line i r.params s = reply at hm ⊢
  obtain ⟨st, data, u⟩ := reply
  simp only at hm ⊢
  have hu : u.agent r.line = s.agent r.line := by simp [State.agent, hm]
  have hfree : (u.agent r.line).slots[i].state = .free := by rw [hu]; exact firstFree_free hs
  have hagent : ∀ l, (execute run r i s).agent l =
      if l = r.line then
        ((u.agent r.line).place i (responseFrame r st data)).moveCache ⟨r.seq, r.code, i⟩
      else u.agent l := by
    intro l
    simp only [execute, hr]
    rw [agent_setAgent]
    split
    · simp [State.agent, answer, setAgent]
    · rename_i hl
      simp [State.agent, answer, setAgent, perLine_get_set, hl]
  have hcount : (execute run r i s).counters = (bump (.mgmt .executed) u).counters := by
    simp only [execute, hr]
    rfl
  refine ⟨?_, fun j hj => ?_, ?_, ?_, fun l hl => ?_, ?_, ?_⟩
  · rw [hagent, if_pos rfl, moveCache_slots, place_slots, if_pos rfl, if_neg (by simp)]
    rfl
  · rw [hagent, if_pos rfl, moveCache_slots, place_slots, if_neg hj]
    rfl
  · rw [hagent, if_pos rfl]
    rfl
  · rw [hagent, if_pos rfl]
    rfl
  · rw [hagent, if_neg hl]
  · have : (execute run r i s).count (.mgmt .executed) = (bump (.mgmt .executed) u).count (.mgmt .executed) := by
      simp only [State.count, hcount]
    rw [this]
    exact count_bumpBy_same ..
  · have hc : (execute run r i s).counters = u.counters.set 114 ((execute run r i s).count (.mgmt .executed)) := by
      refine table_ext fun k => ?_
      have hk := counters_bumpBy (.mgmt .executed) 1 u k
      rw [State.count, hcount]
      rw [show (bump (.mgmt .executed) u).counters = (bumpBy (.mgmt .executed) 1 u).counters from rfl]
      rw [hk, counters_bumpBy, if_pos rfl]
      exact (table_set_get u.counters (Counter.place (.mgmt .executed)) k _).symm
    rw [← hc]
    simp only [execute, hr]
    rfl

/-- R154: a response placed by `answer`. -/
theorem answer_placed (r : Request) (i : SlotIx) (st : Status) (data : List Octet) (u : State) :
    Placed r i st (if st = .ok then data else []) u (answer r i st data u) := by
  refine ⟨?_, fun j hj => ?_, ?_, ?_, fun l hl => ?_⟩
  · simp only [answer, agent_setAgent_same, place_slots]
    rfl
  · simp only [answer, agent_setAgent_same, place_slots, if_neg hj]
  · simp only [answer, agent_setAgent_same]
    rfl
  · simp only [answer, agent_setAgent_same]
    rfl
  · simp only [answer, agent_setAgent, if_neg hl]

/-- R158: an execution's answer, from what its run hands back. -/
theorem answered_of_run {run : Execution} {r : Request} {i : SlotIx} {s u : State} {st : Status} {data : List Octet}
    (hr : run r.line i r.params s = ⟨st, data, u⟩) (hm : u.mgmt = s.mgmt) (hs : Ready s r i)
    (hd : st ≠ .ok → data = []) : Answered r i st data u (execute run r i s) := by
  have h := execute_answered (run := run) (r := r) (i := i) (s := s) (by rw [hr]; exact hm) hs.slot
  rw [hr] at h
  by_cases hst : st = .ok
  · simpa [hst] using h
  · simpa [hst, hd hst] using h

/-- R148, R209: the command of a request runs the execution of its code. -/
theorem exec_requestInstr (r : Request) (s : State) : exec (requestInstr r) s = requestCommand (runOf r.code) r s := by
  obtain ⟨l, src, seq, code, ps⟩ := r
  have hc : ∀ n, code.toNat = n → code = BitVec.ofNat 8 n := by
    rintro _ rfl
    simp
  simp only [requestInstr]
  split
  all_goals first
    | (rename_i h; rw [hc _ h]; rfl)
    | simp only [exec, execUnknownRequestCode]

/-- R154: an authorised request goes on to step 2. -/
theorem requestCommand_authorised {run : Execution} {r : Request} {s : State} (h : Authorised s r) :
    requestCommand run r s = .next (takeAuthorised run r s) := by
  simp [requestCommand, inCore, h.powered, h.managed, takeRequest, h.authority]

/-- R156: there is no FREE slot. -/
theorem firstFree_eq_none {g : LineAgent} : g.firstFree = none ↔ ∀ i : SlotIx, g.slots[i].state ≠ .free := by
  simp [LineAgent.firstFree, List.find?_eq_none]

/-- The first index that passes a test. -/
theorem find_finRange {n : Nat} (p : Fin n → Bool) (i : Fin n) (hi : p i = true) (hj : ∀ j < i, p j = false) :
    (List.finRange n).find? p = some i := by
  rw [List.find?_eq_some_iff_getElem]
  refine ⟨hi, i.val, by simp, by simp, fun j hjl => ?_⟩
  simpa using hj ⟨j, by omega⟩ hjl

/-- R156: the lowest-numbered FREE slot. -/
theorem firstFree_eq_some {g : LineAgent} {i : SlotIx} (h : g.slots[i].state = .free)
    (hj : ∀ j : SlotIx, j < i → g.slots[j].state ≠ .free) : g.firstFree = some i :=
  find_finRange _ i (by simpa using h) fun j hjl => by simpa using hj j hjl

end Sys2Proof.Machine
end

