-- ==== Sys2Proof/Laws/Store.lean ====
section
/-! SUPPORT. What the shared operations of the frame store and the queue manager do, each said once: claims (R115,
R123), releases (R112, R124), joins (R4). -/

namespace Sys2Proof.Machine

/-- R115: a claim takes the head of the free list, after its test against the free count, and takes the STORE_LOW
test. -/
theorem claim_some {l : Line} {s t : State} {b : Block} (h : claim l s = some (b, t)) :
    claimSucceeds l s = true ∧ ∃ rest, s.store.free = b :: rest ∧
      t = lowTest { s with store := { s.store with free := rest } } := by
  simp only [claim] at h
  split at h
  · split at h
    · cases h
    · rename_i hs _ b' rest hf
      simp only [Option.some.injEq, Prod.mk.injEq] at h
      obtain ⟨rfl, rfl⟩ := h
      exact ⟨hs, rest, hf, rfl⟩
  · cases h

/-- R115: a claim fails exactly where its test does. -/
theorem claim_none {l : Line} {s : State} : claim l s = none ↔ claimSucceeds l s = false := by
  constructor
  · intro h
    by_contra hs
    have hs' : claimSucceeds l s = true := by simpa using hs
    simp only [claim, if_pos hs'] at h
    split at h
    · rename_i hf
      cases l <;> simp [claimSucceeds, State.freeCount, hf] at hs'
    · cases h
  · intro h
    simp [claim, h]

/-- R112, R123: what a claim leaves: the free list without its head, and nothing changed but the armed state and the
events. -/
theorem claim_frame {l : Line} {s t : State} {b : Block} (h : claim l s = some (b, t)) :
    s.store.free = b :: t.store.free ∧ t.store.mem = s.store.mem ∧ t.store.records = s.store.records ∧
      t = { s with store := t.store, events := t.events } := by
  obtain ⟨-, rest, hf, rfl⟩ := claim_some h
  exact ⟨hf, rfl, rfl, rfl⟩

/-- R112: a release appends the chain to the tail of the free list. -/
@[simp] theorem releaseChain_free (chain : List Block) (s : State) :
    (releaseChain chain s).store.free = s.store.free ++ chain := rfl

@[simp] theorem releaseChain_records (chain : List Block) (s : State) :
    (releaseChain chain s).store.records = s.store.records := rfl

@[simp] theorem releaseChain_mem (chain : List Block) (s : State) :
    (releaseChain chain s).store.mem = s.store.mem := rfl

/-- R119: a frame's chain goes to the tail of the free list in chain order. -/
@[simp] theorem releaseFrame_free (h : Block) (s : State) :
    (releaseFrame h s).store.free = s.store.free ++ (s.record h).chain := rfl

/-- R15, R120: frames released one after another append their chains in that order. -/
theorem releaseFrames_free (hs : List Block) (s : State) :
    (releaseFrames hs s).store.free = s.store.free ++ hs.flatMap fun h => (s.record h).chain := by
  induction hs generalizing s with
  | nil => simp [releaseFrames]
  | cons h hs ih =>
    have := ih (releaseFrame h s)
    simp only [releaseFrames, List.foldl_cons, List.flatMap_cons] at this ⊢
    rw [this]
    simp

/-- R15, R120: and change nothing else but the armed state. -/
theorem releaseFrames_frame (hs : List Block) (s : State) :
    releaseFrames hs s = { s with store :=
      { s.store with
        free := (releaseFrames hs s).store.free
        armed := (releaseFrames hs s).store.armed } } := by
  induction hs generalizing s with
  | nil => rfl
  | cons h hs ih =>
    have := ih (releaseFrame h s)
    simp only [releaseFrames, List.foldl_cons] at this ⊢
    rw [this]
    rfl

/-- R15, R120, R124: the armed state after frames released one after another is that after one release of them all. -/
theorem releaseFrames_armed (hs : List Block) (s : State) :
    (releaseFrames hs s).store.armed =
      if hs = [] then s.store.armed else s.armedAfter (hs.flatMap fun h => (s.record h).chain).length := by
  induction hs generalizing s with
  | nil => rfl
  | cons h hs ih =>
    rw [show releaseFrames (h :: hs) s = releaseFrames hs (releaseFrame h s) from rfl, ih]
    simp only [reduceCtorEq, if_false, List.flatMap_cons, List.length_append]
    by_cases hn : hs = []
    · subst hn
      simp [releaseFrame, releaseChain, Store.release, State.armedAfter]
    · rw [if_neg hn]
      simp only [State.armedAfter, releaseFrame, releaseChain, Store.release, List.length_append, State.record]
      cases s.store.armed
      · simp only [Bool.false_or]
        have arith : ∀ w f a b : Nat, (decide (w < f + a) || decide (w < f + a + b)) = decide (w < f + (a + b)) := by
          intro w f a b
          rw [Bool.eq_iff_iff]
          simp only [Bool.or_eq_true, decide_eq_true_eq]
          omega
        exact arith ..
      · simp

/-- R4: a join below the limit. -/
theorem join_below {q : QueueIx} {h : Block} {s : State} (hl : (s.queue q).count < (s.queue q).limit) :
    join q h s = bump (.queue q .joined) (setQueue q { s.queue q with frames := (s.queue q).frames ++ [h] } s) :=
  if_pos hl

/-- R4: a tail discard. -/
theorem join_at_limit {q : QueueIx} {h : Block} {s : State} (hl : ¬(s.queue q).count < (s.queue q).limit) :
    join q h s = raise .queueDrop (bump (.queue q .fullDrops) (releaseFrame h s)) :=
  if_neg hl

/-- R6, R9: a departure keeps the mark within the frames left. -/
theorem departed_mark_le {x : Queue} (h : x.mark ≤ x.count) : x.departed.mark ≤ x.departed.count := by
  simp only [Queue.departed, Queue.count, List.length_tail] at *
  omega

end Sys2Proof.Machine
end

