-- ==== Sys2Proof/Laws/Transmission.lean ====
section
/-! SUPPORT. What a cancel marker, the end of a slot's sending, a continuation and a selection leave (R79, R84, R143, R160),
in the terms of Sys2Proof/Safety.lean. -/

namespace Sys2Proof.Machine

/-- R143: a cut transmission, however far it had got. -/
theorem cutStream_cutShort (n : Nat) (stream : List Octet) : CutShort stream (cutStream n stream) := by
  rcases Nat.eq_zero_or_pos stream.length with h | h
  · obtain rfl := List.length_eq_zero_iff.mp h
    exact ⟨0, by simp, by simp [cutStream]⟩
  · exact ⟨n % stream.length, by have := Nat.mod_lt n h; omega, rfl⟩

/-- R86, R87: the cancel markers of both lines. -/
theorem cancel_both (s : State) :
    CutA s (cancelB (cancelA s)).sent.a ∧ CutB s (cancelB (cancelA s)).sent.b := by
  cases ha : s.txA <;> cases hb : s.txB <;>
    simp only [CutA, CutB, cancelA, cancelB, cancelSending, ha, hb, PerLine.set, cutStream_cutShort, and_self]

/-- R160, R163: what the report of a slot's end leaves of the agent and the restart state. -/
theorem slotEnded_ended (l : Line) (i : SlotIx) (u t : State) (hm : t.mgmt = (slotEnded l i u).mgmt)
    (hr : t.restart = (slotEnded l i u).restart) : SlotEnded l i u t := by
  have ha : ∀ l', t.agent l' = (slotEnded l i u).agent l' := fun l' => by simp only [State.agent, hm]
  have hl : t.agent l = (u.agent l).endSending i := by
    rw [ha]
    exact perLine_get_set_same ..
  refine ⟨?_, fun j hj => ?_, ?_, ?_, fun l' hl' => ?_, fun sc d hd => ?_, fun hn => ?_⟩
  · rw [hl]
    simp only [LineAgent.endSending, table_set_get_same]
    rfl
  · rw [hl]
    simp only [LineAgent.endSending, table_set_get, if_neg hj]
  · rw [hl]
    rfl
  · rw [hl]
    rfl
  · rw [ha]
    simp only [slotEnded, State.agent, perLine_get_set, if_neg hl']
  · rw [hr]
    simp [slotEnded, hd, RestartState.slotEnded]
  · rw [hr]
    simp only [slotEnded, RestartState.slotEnded]
    split <;> rename_i h
    · exact h.symm
    · rw [if_neg, h]
      rintro ⟨rfl, rfl⟩
      exact hn _ _ h
    · exact h.symm

/-- The octets of a slot do not depend on its state. -/
theorem slotOctets_startSending (s : State) (l : Line) (i : SlotIx) :
    slotOctets (setAgent l ((s.agent l).startSending i) s) l i = slotOctets s l i := by
  simp only [slotOctets, agent_setAgent_same, LineAgent.startSending, LineAgent.setSlot, table_set_get_same]
  rfl

/-- R79: a continuation. -/
theorem continueB_continued (s : State) : ContinuedB s (continueB s) := by
  refine ⟨fun hs => ?_, fun i hs => ?_, fun q h hs => ?_⟩
  · simp only [continueB, hs]
  · simp only [continueB, hs, State.inFlightOf, takeSource, inFlightOctets, slotOctets_startSending]
    rfl
  · simp only [continueB, hs, State.inFlightOf, takeSource, inFlightOctets]
    rfl

/-- R84: a selection on line A. -/
theorem selectA_selected (s : State) : SelectedA s (selectA s) := by
  refine ⟨fun hs => ?_, fun i hs => ?_, fun q h hs => ?_⟩
  · simp only [selectA, hs]
  · simp only [selectA, hs, State.inFlightOf, takeSource, inFlightOctets, slotOctets_startSending]
    rfl
  · simp only [selectA, hs, State.inFlightOf, takeSource, inFlightOctets]
    rfl

end Sys2Proof.Machine
end

