-- ==== Sys2Proof/WellFormed.lean ====
section
/-! DEFINITION. Which commands the outside world can send: the checks on a command's operands. -/

namespace Sys2Proof

/-- R148: a request's parameters are its payload, at most 1020 octets, less the sequence and the code. -/
def Instr.paramsOk (ps : List Octet) : Bool := ps.length ≤ 1018

/-- A command is well formed when its operands are ones its row can have: parameters that fit a frame (R148), an
octet taken in BETWEEN or IN_FRAME as itself, a code outside the catalogue for UNKNOWN_REQUEST_CODE (R158), and
for DATA_OCTET an octet that is not a delimiter (R129). -/
def Instr.wellFormed : Instr → Bool
  | .huntDelimiter _ | .betweenOctet _ _ | .closingDelimiter _ | .cancelMarker _ => true
  | .discardingDelimiter _ _ | .escape _ => true
  | .dataOctet _ o => o != 0xC3
  | .identify _ _ _ ps | .readSettings _ _ _ ps | .writeSettings _ _ _ ps => paramsOk ps
  | .setRemoteAccess _ _ _ ps | .readTime _ _ _ ps | .setTime _ _ _ ps => paramsOk ps
  | .readRule _ _ _ ps | .readBankState _ _ _ ps | .writeRule _ _ _ ps => paramsOk ps
  | .clearStandby _ _ _ ps | .activate _ _ _ ps | .readQueue _ _ _ ps => paramsOk ps
  | .writeQueue _ _ _ ps | .freezeQueue _ _ _ ps | .resumeQueue _ _ _ ps => paramsOk ps
  | .flushQueue _ _ _ ps | .releaseQueue _ _ _ ps | .readWindow _ _ _ ps => paramsOk ps
  | .readWindowState _ _ _ ps | .writeWindow _ _ _ ps | .stopTrunk _ _ _ ps => paramsOk ps
  | .restartTrunk _ _ _ ps | .readEvents _ _ _ ps | .ackEvents _ _ _ ps => paramsOk ps
  | .writeEventMask _ _ _ ps | .readCounters _ _ _ ps | .restart _ _ _ ps => paramsOk ps
  | .unknownRequestCode _ _ _ code ps => paramsOk ps && !requestCodes.contains code
  | .selectionB | .selectionA | .grantPresent | .grantTimeout | .grantLoss | .holdoffExpiry => true
  | .completionBFrame _ | .completionBSlot | .completionA | .charge => true
  | .secondStep | .minuteBoundary | .oscillatorStop | .crystalReturn | .uptimeSecond => true
  | .noticeRepeatExpiry | .noticeBuild | .restartDeadlineExpiry => true
  | .restartPerformance _ | .coreReset _ | .powerOnWithTimeLoss _ | .mainSupplyLoss | .vbakLoss => true

end Sys2Proof
end

