-- ==== Sys2Proof/Tests/Slice0.lean ====
section
/-! SUPPORT. Tests of the model, each of one step on a small state with the values the spec gives, and, for every statement of
Certificates/Slice0/Obligations.lean that has hypotheses, a state and operands that meet them. -/

namespace Sys2Proof.Tests

open Sys2Proof Sys2Proof.Machine

-- One theorem at a time: the kernel evaluates whole states below.
set_option Elab.async false

/-! ## Small states -/

/-- The state a command answers. -/
def after (c : Instr) (s : State) : State :=
  match exec c s with
  | .next t => t
  | .fault _ => s
  | .refused _ => s

/-- After reset, with one frame of three octets in block 0 at the head of a queue. -/
def withHead (q : QueueIx) : State :=
  { State.reset with
    store :=
      { State.reset.store with
        mem := [(0, 0x30), (1, 0x05), (2, 0x12)]
        free := State.reset.store.free.tail
        records := State.reset.store.records.set 0
          { line := .a, length := 3, chain := [0], stamp := 0, matched := none, attempts := 0 } }
    queues := State.reset.queues.set q.val { Queue.blank q with frames := [0] } q.isLt }

/-- The same frame in flight on transmitter B, in SENDING. -/
def sendingB (q : QueueIx) (marked : Bool) (sponsor : Option Sponsor) : State :=
  { withHead q with
    queues := State.reset.queues
    grant := true
    txB := .sending (.frame q 0 marked sponsor) (frameStream [0x30, 0x05, 0x12]) }

/-- The same frame in flight on transmitter B, in REQUESTING. -/
def requestingB (q : QueueIx) (marked : Bool) : State :=
  { withHead q with queues := State.reset.queues, txB := .requesting (.frame q 0 marked none), grantTimer := 50 }

/-- A response for station 0x05, in slot 0 of a line, and cached there. -/
def cachedAgent (state : SlotState) (order : List SlotIx) : LineAgent :=
  { slots := LineAgent.blank.slots.set 0
      { state := state
        content := some { role := .response, destination := 0x05, kind := 0xE2, payload := [40, 0x30, 0] }
        attempts := 0 }
    order := order
    cache := some ⟨40, 0x30, 0⟩ }

/-- The same on line A. -/
def cachedA (state : SlotState) (order : List SlotIx) : State :=
  { State.reset with mgmt := ⟨cachedAgent state order, LineAgent.blank⟩ }

/-- The same on line B, with REMOTE FULL. -/
def cachedB (state : SlotState) (order : List SlotIx) : State :=
  { State.reset with
    mgmt := ⟨LineAgent.blank, cachedAgent state order⟩
    settings := { State.reset.settings with remote := .full } }

/-- A line whose four slots are QUEUED. -/
def fullAgent : LineAgent :=
  { slots := tabulate 4 fun _ =>
      { state := .queued
        content := some { role := .notice, destination := 0x01, kind := 0xE3, payload := [1] }
        attempts := 0 }
    order := [0, 1, 2, 3]
    cache := none }

/-- The bits of octets on a line, most significant bit first. -/
def bitsOf (os : List Octet) : List Bool := os.flatMap fun o => (List.range 8).map o.getMsbD

/-- After reset, with the receiver of a line in IN_FRAME holding these octets. -/
def receiving (l : Line) (escape : Bool) (decoded : Nat) (held : List Octet) (check : Word16) (h : Option Block)
    (s : State) : State :=
  setReceiver l
    { State.reset.receiver l with
      state := .inFrame, aligned := true, escapePending := escape, decoded := decoded, held := held, check := check
      handle := h } s

/-- A frame of 3 octets stored in block 0, its check held, received from line A. -/
def receivedA (os : List Octet) : State :=
  receiving .a false (os.length + 2) (be16 (checkValue os)) (checkValue os) (some 0)
    { withHead 0 with
      queues := State.reset.queues
      store :=
        { (withHead 0).store with
          mem := (List.range os.length).filterMap fun k => if os.getD k 0 = 0 then none else some (k, os.getD k 0)
          records := (withHead 0).store.records.set 0
            { line := .a, length := os.length, chain := [0], stamp := 0, matched := none, attempts := 0 } } }

/-- A window open with a budget, listing S1 and S2 (02, the night's windows). -/
def nightWindow (phase : WindowPhase) (minutes budget : Nat) (opening : Word16) : Window :=
  { entry :=
      { enabled := true, minute := 0, hour := some 1, weekdays := none, day := none, duration := 120, budget := 3000
        queueSet := 0x06 }
    state := { phase := phase, minutes := minutes, budget := budget, opening := opening } }

/-- A state in which the calendar shows a time and TIME_VALID is yes, with window 2 as given. -/
def atTime (cal : Calendar) (w : Window) : State :=
  { State.reset with
    tk := { State.reset.tk with cal := cal, crystal := .running, timeValid := true }
    windows := State.reset.windows.set 2 w }

/-- One second before 01:00 on 2024-02-29. -/
def beforeOne : Calendar := { second := 59, minute := 59, hour := 0, weekday := 3, day := 29, month := 2, year := 24 }

/-! ## Operands and the table's words -/

theorem test_octet_data_delimiter_refused : (Instr.dataOctet .a 0xC3).wellFormed = false := by decide

theorem test_catalogue_code_refused : (Instr.unknownRequestCode .a 1 1 0x24 []).wellFormed = false := by decide

theorem test_long_parameters_refused :
    (Instr.identify .a 1 1 (List.replicate 1019 0)).wellFormed = false ∧
      (Instr.unknownRequestCode .b 1 1 0x7F (List.replicate 1019 0)).wellFormed = false := by decide +kernel

theorem test_ordinary_operands_taken :
    (Instr.dataOctet .b 0xC9).wellFormed = true ∧ (Instr.unknownRequestCode .a 1 1 0x7F []).wellFormed = true ∧
      (Instr.restart .a 1 1 [0]).wellFormed = true := by decide

theorem test_no_word_spells_a_command : decodeTableWord 16 0x24 = none := rfl

/-! ## Line framing (07) -/

/-- R134: the check value of the octets of "123456789" is 0x29B1. -/
theorem test_check_value : checkValue [0x31, 0x32, 0x33, 0x34, 0x35, 0x36, 0x37, 0x38, 0x39] = 0x29B1 := by decide +kernel

/-- 07, encoding a short frame: both special octets are escaped and 0x10 is not. -/
theorem test_short_frame_encoding :
    (frameStream [0x2A, 0x05, 0xC3, 0xC9, 0x10, 0x44]).take 9 =
      [0xC3, 0x2A, 0x05, 0xC9, 0xD3, 0xC9, 0xD9, 0x10, 0x44] := by decide +kernel

/-- 07: a transmission cut just after the escape of the kind octet is completed by 0xC3 alone. -/
theorem test_cut_after_escape :
    cutStream 4 (frameStream [0x2A, 0x05, 0xC3, 0xC9, 0x10, 0x44]) = [0xC3, 0x2A, 0x05, 0xC9, 0xC3] := by
  decide +kernel

/-- R128: 11000011 is a delimiter at whatever bit it begins, here after three bits, and most significant bit first. -/
theorem test_hunt_delimiter :
    let bits := [true, true, false] ++ [true, true, false, false, false, false, true, true]
    ((after (.huntDelimiter ⟨.a, bits⟩) State.reset).receiver .a).state = .between ∧
      ((after (.huntDelimiter ⟨.a, bits⟩) State.reset).receiver .b).state = .seeking := by decide +kernel

/-- R128: bits that form no delimiter are passed over, and one that two events bring in parts is found. -/
theorem test_hunt_passes :
    let t := after (.huntDelimiter ⟨.b, [true, true, false, false, false]⟩) State.reset
    (t.receiver .b).state = .seeking ∧
      ((after (.huntDelimiter ⟨.b, [false, true, true]⟩) t).receiver .b).state = .between ∧
      ((after (.huntDelimiter ⟨.b, [false, true, false]⟩) t).receiver .b).state = .seeking := by decide +kernel

/-- 07: an octet in BETWEEN begins a frame and is held. -/
theorem test_between_octet :
    ((after (.betweenOctet .a 0x30) (after (.huntDelimiter ⟨.a, bitsOf [0xC3]⟩) State.reset)).receiver .a).held = [0x30] := by
  decide +kernel

/-- 07: the third octet of a frame claims block 0, the free count 511. -/
theorem test_third_octet_claims :
    let t := after (.dataOctet .a 0x12) (receiving .a false 2 [0x30, 0x07] 0xFFFF none State.reset)
    (t.receiver .a).decoded = 3 ∧ t.freeCount = 511 ∧ (t.record 0).chain = [0] ∧ (t.record 0).length = 1 ∧
      memRead t.store.mem 0 = 0x30 := by decide +kernel

/-- 07: an octet after an escape has its bit of weight 0x10 inverted. -/
theorem test_escaped_octet :
    ((after (.dataOctet .b 0xD3) (receiving .b true 0 [] 0xFFFF none State.reset)).receiver .b).held = [0xC3] := by
  decide +kernel

/-- 07: the runt at three octets gives block 0 back to the tail of the free list. -/
theorem test_closing_runt :
    let t := after (.closingDelimiter .a)
      (receiving .a false 3 [0x07, 0x12] 0xFFFF (some 0) { withHead 0 with queues := State.reset.queues })
    t.store.free.head? = some 1 ∧ t.store.free.getLast? = some 0 ∧ t.count (.line .a .runts) = 1 ∧
      (t.receiver .a).state = .between := by decide +kernel

/-- 07: a frame with a good check joins EXP. -/
theorem test_closing_good_frame :
    let t := after (.closingDelimiter .a) (receivedA [0x30, 0x05, 0x12])
    (t.queue 0).frames = [0] ∧ t.count (.line .a .goodFrames) = 1 ∧ t.count .outboundDefaultHits = 1 := by
  decide +kernel

/-- 07: a cancel marker releases the chain and counts an abort. -/
theorem test_cancel_marker :
    let t := after (.cancelMarker .a)
      (receiving .a false 10 [0x07, 0x12] 0xFFFF (some 0) { withHead 0 with queues := State.reset.queues })
    t.freeCount = 512 ∧ t.count (.line .a .aborts) = 1 ∧ t.events.states[Event.frameAbort.number] = .unreported := by
  decide +kernel

/-- R140: the delimiter after a rejected frame counts it; the end of a cancel marker does not. -/
theorem test_discarding_delimiter :
    let s := setReceiver .b { State.reset.receiver .b with state := .discarding, reject := some .longFrame } State.reset
    (after (.discardingDelimiter .b (bitsOf [0x55, 0xC3])) s).count (.line .b .longFrames) = 1 ∧
      (after (.discardingDelimiter .b (bitsOf [0xC9, 0xC3])) s).count (.line .b .longFrames) = 0 := by decide +kernel

/-- R129: an escape after an escape is the data octet 0xD9. -/
theorem test_escape :
    ((after (.escape .a) (receiving .a true 0 [] 0xFFFF none State.reset)).receiver .a).held = [0xD9] ∧
      ((after (.escape .a) (receiving .a false 0 [] 0xFFFF none State.reset)).receiver .a).escapePending = true := by
  decide +kernel

/-! ## Classification (05, one bank, ten frames) -/

/-- An entry of the worked sequence: a direction, an action, a queue and a last flag, the tests to follow. -/
def rule (d : Direction) (a : RuleAction) (q : Fin 7) (last : Bool) : RuleEntry :=
  { RuleEntry.cleared with valid := true, last := last, direction := d, action := a, queue := q }

/-- 05: bank 0 of the worked sequence. -/
def bankOf05 : Vector RuleEntry 48 :=
  (((((clearedBank.set 0 { rule .outbound .forward 0 false with kind := ⟨0x10, 0xF0⟩ }).set 1
    { rule .outbound .forward 1 false with kind := ⟨0x40, 0xFF⟩, probe := some ⟨0, 0x01, 0x0F⟩ }).set 2
    { rule .outbound .forward 2 false with kind := ⟨0x40, 0xFF⟩, lengths := some ⟨3, 200⟩ }).set 3
    { rule .outbound .discard 0 true with destination := ⟨0x30, 0xFF⟩ }).set 4
    { rule .inbound .discard 0 false with source := ⟨0x7F, 0xFF⟩ }).set 5
    { rule .both .forward 3 true with kind := ⟨0xE3, 0xFF⟩ }

/-- 05: the frames a to f of line A, as far as their lengths and octets matter. -/
theorem test_search_line_a :
    let c := { Classifier.blank with bank0 := bankOf05 }
    c.decide .a ([0x30, 0x05, 0x12] ++ List.replicate 37 0) = some 0 ∧
      c.decide .a ([0x30, 0x05, 0x40, 0x21] ++ List.replicate 496 0) = some 1 ∧
      c.decide .a ([0x30, 0x05, 0x40, 0x22] ++ List.replicate 496 0) = some 3 ∧
      c.decide .a ([0x31, 0x05, 0x40, 0x22] ++ List.replicate 146 0) = some 2 ∧
      c.decide .a [0x31, 0x05, 0x55] = none ∧ c.decide .a ([0x31, 0x05, 0xE3] ++ List.replicate 17 0) = none := by
  decide +kernel

/-- 05: the frames g, h and j of line B. -/
theorem test_search_line_b :
    let c := { Classifier.blank with bank0 := bankOf05 }
    c.decide .b ([0x05, 0x7F, 0x12] ++ List.replicate 57 0) = some 4 ∧
      c.decide .b ([0x05, 0x40, 0xE3] ++ List.replicate 27 0) = some 5 ∧
      c.decide .b ([0x05, 0x40, 0x12] ++ List.replicate 77 0) = none := by decide +kernel

/-- 05: frame a goes to EXP, c is discarded, e goes to S4 by the default, h goes to INB. -/
theorem test_outcomes :
    let s := { State.reset with
      classifier := { Classifier.blank with bank0 := bankOf05 }
      settings := { State.reset.settings with outboundDefault := .forward 4 } }
    s.verdict .a (some 0) = .forward 0 ∧ s.verdict .a (some 3) = .discard ∧ s.verdict .a none = .forward 4 ∧
      s.verdict .b (some 5) = .forward 7 := by decide +kernel

/-! ## Requests (08, 09), each as the first of its sequence from station 0x05 -/

/-- The payload of the response in slot 0 of line A after a request from line A. -/
def answerOf (c : Instr) (s : State) : Option (List Octet) :=
  ((after c s).mgmt.a.slots[0].content).map (·.payload)

/-- R174, R210: vendor and part, revision 1, the station, 512 blocks, 48 entries, 24 windows, generation 1. -/
theorem test_identify :
    answerOf (.identify .a 0x05 9 []) State.reset =
      some [9, 0x01, 0, 0x3A, 0x61, 0x02, 0x16, 1, 0x2A, 0x02, 0x00, 0x30, 0x18, 0x00, 0x01] := by decide +kernel

/-- R170, R209: the settings of a core reset. -/
theorem test_read_settings :
    answerOf (.readSettings .a 0x05 9 []) State.reset =
      some [9, 0x02, 0, 0x02, 0x00, 32, 64, 0, 0, 0, 0x01, 30, 50, 10, 3, 2, 0] := by decide +kernel

/-- R172: a max frame length of 15 is out of range, and one of 16 is stored. -/
theorem test_write_settings :
    answerOf (.writeSettings .a 0x05 9 [0, 15, 32, 64, 0, 0, 0, 1, 30, 50, 10, 3, 2]) State.reset =
        some [9, 0x03, 3] ∧
      (after (.writeSettings .a 0x05 9 [0, 16, 32, 64, 0, 0, 2, 1, 30, 50, 10, 3, 2]) State.reset).settings =
        { State.reset.settings with maxFrameLength := 16, noticeLine := none } := by decide +kernel

theorem test_set_remote_access :
    (after (.setRemoteAccess .a 0x05 9 [2]) State.reset).settings.remote = .full ∧
      answerOf (.setRemoteAccess .a 0x05 9 [3]) State.reset = some [9, 0x04, 3] := by decide +kernel

/-- R60, R210: after a power-on with time loss the calendar reads 2000-01-01, not valid, the crystal STOPPED. -/
theorem test_read_time :
    answerOf (.readTime .a 0x05 9 []) State.reset =
      some [9, 0x10, 0, 0, 0, 0, 0, 1, 1, 0, 0x00, 0, 0, 0, 0, 0x00, 0x01] := by decide +kernel

/-- R53: day 29 of February of year 25 is a bad value, checked before the crystal; of year 24 it meets the crystal. -/
theorem test_set_time :
    answerOf (.setTime .a 0x05 9 [0, 0, 0, 4, 29, 2, 25]) State.reset = some [9, 0x11, 3] ∧
      answerOf (.setTime .a 0x05 9 [0, 0, 0, 3, 29, 2, 24]) State.reset = some [9, 0x11, 6] := by decide +kernel

/-- R91, R210: an entry of the active bank after core reset. -/
theorem test_read_rule :
    answerOf (.readRule .a 0x05 9 [0, 47]) State.reset =
        some ([9, 0x20, 0, 1, 0, 3, 0, 0] ++ List.replicate 13 0) ∧
      answerOf (.readRule .a 0x05 9 [0, 48]) State.reset = some [9, 0x20, 2] := by decide +kernel

theorem test_read_bank_state :
    answerOf (.readBankState .a 0x05 9 []) State.reset = some [9, 0x21, 0, 0, 0, 0, 0, 0] := by decide +kernel

/-- R102: the entry goes to bank 1, the standby. -/
theorem test_write_rule :
    let t := after (.writeRule .a 0x05 9
      [5, 0xC0, 1, 1, 6, 0, 0, 0, 0, 0x12, 0xFF, 0, 0, 0, 0, 0, 0, 0]) State.reset
    t.classifier.bank1[5] = { rule .outbound .discard 6 true with kind := ⟨0x12, 0xFF⟩ } ∧
      t.classifier.bank0 = State.reset.classifier.bank0 := by decide +kernel

theorem test_clear_standby :
    let s := { State.reset with classifier := { Classifier.blank with bank0 := bankOf05, active := true } }
    (after (.clearStandby .a 0x05 9 []) s).classifier.bank0[0] = RuleEntry.cleared := by decide +kernel

/-- R105, R106: the copy flag makes the standby bank a replica of the bank made active. -/
theorem test_activate :
    let s := { State.reset with classifier := { Classifier.blank with bank1 := bankOf05, activations := 4 } }
    (after (.activate .a 0x05 9 [1]) s).classifier =
      { bank0 := bankOf05, bank1 := bankOf05, active := true, activations := 5 } := by decide +kernel

/-- R20: the limit of EXP, one frame, one block. -/
theorem test_read_queue :
    answerOf (.readQueue .a 0x05 9 [0]) (withHead 0) = some [9, 0x30, 0, 32, 0, 0, 0, 0, 1, 0, 1, 0, 0, 0] := by
  decide +kernel

/-- R180: a limit of 0 is refused; a fallback is checked for S1 and ignored for INB. -/
theorem test_write_queue :
    answerOf (.writeQueue .a 0x05 9 [1, 0, 0, 0, 0]) State.reset = some [9, 0x31, 3] ∧
      answerOf (.writeQueue .a 0x05 9 [1, 5, 0, 0, 2]) State.reset = some [9, 0x31, 3] ∧
      answerOf (.writeQueue .a 0x05 9 [7, 5, 1, 2, 2]) State.reset =
        some [9, 0x31, 0, 5, 1, 2, 0, 0, 0, 0, 0, 0, 0, 0] := by decide +kernel

theorem test_freeze_queue :
    ((after (.freezeQueue .a 0x05 9 [7]) State.reset).queue 7).frozen = true := by decide +kernel

theorem test_resume_queue :
    ((after (.resumeQueue .a 0x05 9 [0]) (after (.freezeQueue .b 0x05 9 [0]) State.reset)).queue 0).frozen = false := by
  decide +kernel

/-- 01, the release mark: a flush empties the queue, zeroes the mark and counts. -/
theorem test_flush_queue :
    let s := withHead 4
    let t := after (.flushQueue .a 0x05 9 [4])
      { s with queues := s.queues.set 4 { s.queue 4 with mark := 1 } }
    (t.queue 4).frames = [] ∧ (t.queue 4).mark = 0 ∧ t.freeCount = 512 ∧ t.count (.queue 4 .flushed) = 1 := by
  decide +kernel

/-- R10: the mark of S4 becomes the frame count; that of INB is not changed. -/
theorem test_release_queue :
    ((after (.releaseQueue .a 0x05 9 [4]) (withHead 4)).queue 4).mark = 1 ∧
      ((after (.releaseQueue .a 0x05 9 [7]) (withHead 7)).queue 7).mark = 0 := by decide +kernel

/-- R45, R210: a window entry after core reset. -/
theorem test_read_window :
    answerOf (.readWindow .a 0x05 9 [23]) State.reset =
      some [9, 0x40, 0, 0x00, 0, 0xFF, 0x80, 0xFF, 0, 1, 0, 0, 0, 0x02] := by decide +kernel

theorem test_read_window_state :
    (answerOf (.readWindowState .a 0x05 9 []) (atTime beforeOne (nightWindow .opened 120 200 18))).map
        (fun p => (p.drop 19).take 8) = some [1, 0, 120, 0, 0, 200, 0, 18] := by decide +kernel

/-- 09, a remote manager: a duration of 0 is refused; the entry then stored leaves an OPEN window CLOSED. -/
theorem test_write_window :
    answerOf (.writeWindow .a 0x05 9 [2, 0x80, 0, 1, 0x80, 0xFF, 0, 0, 0, 0, 0, 0x02]) State.reset =
        some [9, 0x42, 3] ∧
      (after (.writeWindow .a 0x05 9 [2, 0x80, 0, 1, 0x80, 0xFF, 0, 30, 0, 0, 0, 0x02])
        (atTime beforeOne (nightWindow .opened 120 200 18))).windows[2].state =
          { phase := .closed, minutes := 0, budget := 200, opening := 18 } := by decide +kernel

/-- 01: STOP TRUNK returns a marked frame in flight, its attempt count unchanged, to the head of S4. -/
theorem test_stop_trunk :
    let t := after (.stopTrunk .a 0x05 9 []) (requestingB 4 true)
    (t.queue 4).frames = [0] ∧ (t.queue 4).mark = 1 ∧ t.txB = .idle ∧ t.trunkMode = .stopped ∧
      (t.record 0).attempts = 0 := by decide +kernel

theorem test_restart_trunk :
    answerOf (.restartTrunk .a 0x05 9 []) { State.reset with trunkMode := .stopped } = some [9, 0x51, 0, 0, 0] := by
  decide +kernel

/-- R206: CLOCK_STOPPED alone is pending after a power-on with time loss, and the mask is 0x911F. -/
theorem test_read_events :
    answerOf (.readEvents .a 0x05 9 []) State.reset =
      some [9, 0x60, 0, 0, 0, 0, 0, 0, 0, 0, 0, 0, 0, 0, 0, 1, 0, 0, 0, 0x91, 0x1F, 1, 0] := by decide +kernel

/-- R200: an event not yet reported is left, a reported one cleared. -/
theorem test_ack_events :
    let s := { State.reset with events := EventUnit.noticeBuilt 30 State.reset.events }
    (after (.ackEvents .a 0x05 9 [0x10, 0x00]) State.reset).events.states[Event.clockStopped.number] = .unreported ∧
      (after (.ackEvents .a 0x05 9 [0x10, 0x00]) s).events.states[Event.clockStopped.number] = .clear ∧
      (after (.ackEvents .a 0x05 9 [0x10, 0x00]) s).events.notice.state = .quiet := by decide +kernel

/-- R202: masking the one pending event makes the notice unit QUIET. -/
theorem test_write_event_mask :
    (after (.writeEventMask .a 0x05 9 [0x81, 0x1F]) State.reset).events.notice.state = .quiet := by decide +kernel

/-- R205: counters read with the clear flag are reported and then 0. -/
theorem test_read_counters :
    let s := bumpBy .grantTimeouts 258 State.reset
    answerOf (.readCounters .a 0x05 9 [1, 7, 2, 1]) s =
        some [9, 0x63, 0, 1, 7, 2, 0, 0, 1, 2, 0, 0, 0, 0] ∧
      (after (.readCounters .a 0x05 9 [1, 7, 2, 1]) s).count .grantTimeouts = 0 ∧
      answerOf (.readCounters .a 0x05 9 [1, 9, 1, 0]) s = some [9, 0x63, 2] := by decide +kernel

/-- R188: the response of RESTART carries its scope and the generation, and the restart waits for it. -/
theorem test_restart :
    answerOf (.restart .a 0x05 9 [1]) State.reset = some [9, 0x70, 0, 1, 0x00, 0x01] ∧
      (after (.restart .a 0x05 9 [1]) State.reset).restart = .pending .full .a 0 2 := by decide +kernel

/-- R158: a code outside the catalogue is answered BAD_REQUEST, counted and cached. -/
theorem test_unknown_request_code :
    let t := after (.unknownRequestCode .a 0x05 9 0x7F [1, 2]) State.reset
    answerOf (.unknownRequestCode .a 0x05 9 0x7F [1, 2]) State.reset = some [9, 0x7F, 1] ∧
      t.count (.mgmt .executed) = 1 ∧ t.mgmt.a.cache = some ⟨9, 0x7F, 0⟩ := by decide +kernel

/-- 08, a duplicate request after a lost response: the repeat of request 40 queues the CACHED slot again. -/
theorem test_duplicate :
    let t := after (.readQueue .b 0x05 40 [2]) (cachedB .cached [])
    t.mgmt.b.slots[0].state = .queued ∧ t.count (.mgmt .duplicates) = 1 ∧ t.count (.mgmt .executed) = 0 := by
  decide +kernel

/-- 08: a FLUSH QUEUE with sequence 41 takes slot 1, and slot 0 becomes FREE. -/
theorem test_cache_moves :
    let t := after (.flushQueue .b 0x05 41 [2]) (cachedB .cached [])
    t.mgmt.b.slots[0].state = .free ∧ t.mgmt.b.slots[1].state = .queued ∧ t.mgmt.b.cache = some ⟨41, 0x34, 1⟩ := by
  decide +kernel

/-- 09, a remote manager: IDENTIFY under OFF is discarded and counted; SET REMOTE ACCESS from line B is DENIED under
FULL. -/
theorem test_line_b_authority :
    (after (.identify .b 0x05 1 []) State.reset).mgmt.b = LineAgent.blank ∧
      (after (.identify .b 0x05 1 []) State.reset).count (.mgmt .denied) = 1 ∧
      ((after (.setRemoteAccess .b 0x05 4 [0]) (cachedB .cached [])).mgmt.b.slots[1].content).map (·.payload) =
        some [4, 0x04, 5] := by decide +kernel

/-! ## Transmission (04) -/

/-- R69: EXP's head leaves it; with B_GNT absent transmitter B waits with the grant timer of 50. -/
theorem test_selection_b :
    let t := after .selectionB (withHead 0)
    (t.queue 0).frames = [] ∧ t.txB = .requesting (.frame 0 0 false none) ∧ t.grantTimer = 50 ∧ t.bReq = true := by decide +kernel

/-- R65: while the trunk is STOPPED no data frame is taken. -/
theorem test_selection_b_stopped :
    (after .selectionB { withHead 0 with trunkMode := .stopped }).txB = .idle := by decide +kernel

/-- R84: selector A takes INB. -/
theorem test_selection_a :
    (after .selectionA (withHead 7)).txA =
      .sending (.frame 7 0 false none) (frameStream [0x30, 0x05, 0x12]) := by decide +kernel

theorem test_grant_present :
    (after .grantPresent (requestingB 3 false)).txB =
      .sending (.frame 3 0 false none) (frameStream [0x30, 0x05, 0x12]) := by decide +kernel

/-- 04, the grant timer expires: the count is 1, the frame returns, HOLDOFF follows. -/
theorem test_grant_timeout :
    let t := after .grantTimeout (requestingB 3 false)
    (t.queue 3).frames = [0] ∧ (t.record 0).attempts = 1 ∧ t.txB = .holdoff ∧ t.grantTimer = 0 ∧ t.holdoffTimer = 10 ∧ t.count .grantTimeouts = 1 ∧
      t.events.states[Event.grantFail.number] = .unreported := by decide +kernel

/-- R73: with a retry limit of 0 the first failed attempt drops the frame. -/
theorem test_grant_timeout_drops :
    let s := { requestingB 3 false with settings := { State.reset.settings with retryLimit := 0 } }
    let t := after .grantTimeout s
    (t.queue 3).frames = [] ∧ t.freeCount = 512 ∧ t.count (.queue 3 .retryDrops) = 1 ∧
      t.events.states[Event.retryDrop.number] = .unreported := by decide +kernel

/-- 04, a grant loss: a marked frame returns with its mark, and HOLDOFF follows. -/
theorem test_grant_loss :
    let t := after .grantLoss (sendingB 4 true none)
    (t.queue 4).frames = [0] ∧ (t.queue 4).mark = 1 ∧ t.count .grantLosses = 1 ∧ t.grant = false ∧
      t.txB = .holdoff ∧ t.holdoffTimer = 10 := by decide +kernel

theorem test_holdoff_expiry : 
    let t := after .holdoffExpiry { State.reset with txB := .holdoff, holdoffTimer := 10 }
    t.txB = .idle ∧ t.holdoffTimer = 0 := by
  decide +kernel

/-- 02: a completion of 3 octets sends its charge, which the window takes when it is first. -/
theorem test_completion_b_frame :
    let s := { sendingB 1 false (some ⟨2, 18⟩) with windows := State.reset.windows.set 2 (nightWindow .opened 120 200 18) }
    (after (.completionBFrame false) s).charge = some ⟨3, ⟨2, 18⟩⟩ ∧
      (after (.completionBFrame true) s).windows[2].state.budget = 197 ∧
      (after (.completionBFrame false) s).count (.queue 1 .released) = 1 ∧
      (after (.completionBFrame false) s).freeCount = 512 := by decide +kernel

/-- 08: the cache slot is CACHED at its completion. -/
theorem test_completion_b_slot :
    let t := after .completionBSlot { cachedB .sending [0] with txB := .sending (.slot 0) [0xC3] }
    t.mgmt.b.slots[0].state = .cached ∧ t.mgmt.b.order = [] ∧ t.count (.line .b .framesSent) = 1 ∧ t.txB = .idle := by
  decide +kernel

/-- R85: a frame of INB is released at its completion on line A. -/
theorem test_completion_a :
    let t := after .completionA
      { withHead 7 with queues := State.reset.queues, txA := .sending (.frame 7 0 false none) [0xC3] }
    t.txA = .idle ∧ t.freeCount = 512 ∧ t.count (.queue 7 .released) = 1 ∧ t.count (.line .a .framesSent) = 1 := by
  decide +kernel

/-- 02, a night's windows: the charge of 600 finds 200 left, and the window is SPENT. -/
theorem test_charge_spends :
    let s := { atTime beforeOne (nightWindow .opened 120 200 18) with charge := some ⟨600, ⟨2, 18⟩⟩ }
    (after .charge s).windows[2].state = { phase := .spent, minutes := 120, budget := 0, opening := 18 } ∧
      (after .charge s).events.states[Event.budgetSpent.number] = .unreported := by decide +kernel

/-- 04, a sponsor instance changing: the charge for instance 12 is ignored by instance 13. -/
theorem test_charge_ignored :
    let s := { atTime beforeOne (nightWindow .opened 60 3000 13) with charge := some ⟨900, ⟨2, 12⟩⟩ }
    (after .charge s).windows[2] = nightWindow .opened 60 3000 13 ∧ (after .charge s).charge = none := by
  decide +kernel

/-! ## Clocks (02, 03) -/

/-- 03, carries through a leap day and the end of the century. -/
theorem test_carries :
    (Calendar.tick ⟨59, 59, 23, 2, 28, 2, 24⟩) = ⟨0, 0, 0, 3, 29, 2, 24⟩ ∧
      (Calendar.tick ⟨59, 59, 23, 3, 29, 2, 24⟩) = ⟨0, 0, 0, 4, 1, 3, 24⟩ ∧
      (Calendar.tick ⟨59, 59, 23, 4, 28, 2, 25⟩) = ⟨0, 0, 0, 5, 1, 3, 25⟩ ∧
      (Calendar.tick ⟨59, 59, 23, 6, 31, 12, 99⟩) = ⟨0, 0, 0, 0, 1, 1, 0⟩ := by decide

/-- 03: a second step that does not roll the seconds. -/
theorem test_second_step :
    (after .secondStep (atTime ⟨30, 0, 0, 0, 1, 1, 0⟩ (nightWindow .closed 0 0 17))).tk.cal = ⟨31, 0, 0, 0, 1, 1, 0⟩ := by
  decide +kernel

/-- 02, a night's windows: at 01:00 window 2 opens with 120 minutes, a budget of 3000 and instance 18. -/
theorem test_minute_boundary_opens :
    let t := after .minuteBoundary (atTime beforeOne (nightWindow .closed 0 0 17))
    t.windows[2].state = { phase := .opened, minutes := 120, budget := 3000, opening := 18 } ∧
      t.events.states[Event.windowOpened.number] = .unreported := by decide +kernel

/-- 02: at 03:00 the window that was SPENT closes, and does not reopen since its hour is 1. -/
theorem test_minute_boundary_closes :
    let t := after .minuteBoundary (atTime { beforeOne with hour := 2 } (nightWindow .spent 1 0 18))
    t.windows[2].state = { phase := .closed, minutes := 0, budget := 0, opening := 18 } ∧
      t.events.states[Event.windowClosed.number] = .unreported := by decide +kernel

/-- R50, R41: a stop closes the windows and makes TIME_VALID no. -/
theorem test_oscillator_stop :
    let t := after .oscillatorStop (atTime beforeOne (nightWindow .opened 120 200 18))
    t.tk.timeValid = false ∧ t.tk.crystal = .stopped ∧ t.windows[2].state.phase = .closed ∧
      t.windows[2].state.budget = 200 := by decide +kernel

/-- R51: the crystal returns; TIME_VALID stays no. -/
theorem test_crystal_return :
    let t := after .crystalReturn State.reset
    t.tk.crystal = .running ∧ t.tk.timeValid = false := by decide +kernel

/-- 01: at max age 600 a frame of age 600 is dropped and one of age 590 kept. -/
theorem test_uptime_second :
    let s := withHead 4
    let aging (up : Word32) : State :=
      { s with uptime := up, queues := s.queues.set 4 { s.queue 4 with maxAge := 600, mark := 1 } }
    ((after .uptimeSecond (aging 589)).queue 4).frames = [0] ∧
      ((after .uptimeSecond (aging 599)).queue 4).frames = [] ∧
      ((after .uptimeSecond (aging 599)).queue 4).mark = 0 ∧
      (after .uptimeSecond (aging 599)).count (.queue 4 .ageDrops) = 1 := by
  decide +kernel

/-! ## Notices (10) -/

/-- 10: the notice number is 4 and QUEUE_DROP unreported: notice 5 is built in slot 0 with pending and new sets of bit 2. -/
theorem test_notice_build :
    let s := { State.reset with
      uptime := 1000
      events :=
        { EventUnit.blank with
          states := EventUnit.blank.states.set 2 .unreported, notice := { state := .owed, number := 4, timer := none } } }
    ((after .noticeBuild s).mgmt.a.slots[0].content).map (·.payload) =
        some [5, 0x00, 0x04, 0x00, 0x04, 0, 0, 0x03, 0xE8, 0x00] ∧
      (after .noticeBuild s).events.notice = { state := .outstanding, number := 5, timer := some 30 } ∧
      (after .noticeBuild s).events.states[2] = .reported := by decide +kernel

/-- 10: WINDOW_OPENED is masked, and its raise leaves the unit OUTSTANDING; AGE_DROP makes it OWED. -/
theorem test_raises_at_the_notice_unit :
    let u := { EventUnit.blank with
      states := EventUnit.blank.states.set 2 .reported, notice := { state := .outstanding, number := 5, timer := some 27 } }
    (u.raise 30 .windowOpened).notice = u.notice ∧
      ((u.raise 30 .windowOpened).raise 30 .ageDrop).notice = { state := .owed, number := 5, timer := none } := by
  decide +kernel

theorem test_notice_repeat_expiry :
    let s := { State.reset with events :=
      { EventUnit.blank with
        states := EventUnit.blank.states.set 2 .reported, notice := { state := .outstanding, number := 5, timer := some 0 } } }
    (after .noticeRepeatExpiry s).events.notice = { state := .owed, number := 5, timer := none } := by decide +kernel

/-! ## Restarts, resets and supplies -/

theorem test_restart_deadline_expiry :
    (after .restartDeadlineExpiry { State.reset with restart := .pending .traffic .a 0 2 }).restart =
      .due .traffic .a 0 := by decide +kernel

/-- R164: a traffic restart empties the queues and keeps the counters and the cache slot's response. -/
theorem test_restart_performance :
    let s := { withHead 3 with
      restart := .due .traffic .a 0, mgmt := ⟨cachedAgent .cached [], LineAgent.blank⟩
      counters := (bump .grantLosses State.reset).counters }
    let t := after (.restartPerformance 0x2A) s
    (t.queue 3).frames = [] ∧ t.freeCount = 512 ∧ t.restart = .normal ∧ t.mgmt.a.slots[0].state = .cached ∧
      t.count .grantLosses = 1 := by decide +kernel

/-- R59, R61: a core reset keeps the calendar and increments the restart generation. -/
theorem test_core_reset :
    let t := after (.coreReset 0x31) (atTime beforeOne (nightWindow .opened 120 200 18))
    t.tk.cal = beforeOne ∧ t.tk.generation = 2 ∧ t.tk.timeValid = true ∧ t.station = 0x31 ∧
      t.windows[2] = Window.blank := by decide +kernel

theorem test_power_on_with_time_loss :
    let t := after (.powerOnWithTimeLoss (some 0x31)) (atTime beforeOne (nightWindow .opened 120 200 18))
    t.tk = State.reset.tk ∧ t.station = 0x31 := by decide +kernel

/-- R60: VBAK alone comes up, the calendar starts at 2000-01-01 and counts when the crystal runs, and the core reset that
follows keeps it. -/
theorem test_power_on_backup :
    let s := after (.powerOnWithTimeLoss none)
      { atTime beforeOne (nightWindow .opened 120 200 18) with supply := .none }
    s.supply = .backup ∧ s.tk = { State.reset.tk with generation := 0 } ∧
      (after (.coreReset 0x31) s).tk = State.reset.tk := by decide +kernel

theorem test_supplies :
    (after .mainSupplyLoss State.reset).supply = .backup ∧ (after .vbakLoss State.reset).supply = .main ∧
      (after .vbakLoss (after .mainSupplyLoss State.reset)).supply = .none := by decide +kernel

/-! ## Witnesses: for each statement with hypotheses, a state and operands that meet them -/

/-- A powered, managed part whose line A has had no request is ready for any request from line A. -/
theorem ready_a {s : State} (h : s.supply = .main ∧ s.managed = true ∧ s.mgmt.a = LineAgent.blank ∧ s.restart = .normal)
    (seq code : Octet) (ps : List Octet) : Ready s ⟨.a, 0x05, seq, code, ps⟩ 0 := by
  obtain ⟨h1, h2, h3, h4⟩ := h
  refine ⟨⟨h1, h2, rfl⟩, ?_, ?_, ?_⟩
  · simp only [State.agent, PerLine.get, h3]
    rfl
  · simp only [State.agent, PerLine.get, h3]
    decide +kernel
  · simp only [State.restartPending, h4]
    decide

theorem ready_reset (seq code : Octet) (ps : List Octet) : Ready State.reset ⟨.a, 0x05, seq, code, ps⟩ 0 :=
  ready_a ⟨rfl, by decide +kernel, rfl, rfl⟩ seq code ps

theorem witness_StepRunsFrontCommand : State.reset.pending = [] := rfl

theorem witness_CoreResetAndPowerOn :
    State.reset.supply ≠ .none ∧ State.reset.supply = .main ∧ State.reset.tk.timeValid = false ∧
      (atTime beforeOne Window.blank).supply ≠ .none ∧ (atTime beforeOne Window.blank).tk.timeValid = true ∧
      (after .mainSupplyLoss State.reset).supply ≠ .none ∧ (after .mainSupplyLoss State.reset).supply ≠ .main ∧
      (after .vbakLoss (after .mainSupplyLoss State.reset)).supply = .none := by decide +kernel

theorem witness_RestartIsRecordedDueAndPerformed :
    (∀ x : Octet, Ready State.reset ⟨.a, 0x05, 9, 0x70, [x]⟩ 0) ∧ 1 < (2 : Octet).toNat ∧
      (let s := { State.reset with restart := .pending .full .b 3 0 }
       s.supply = .main ∧ s.restart = .pending .full .b 3 0) ∧
      (let s := { State.reset with restart := .due .full .a 0 }
       s.supply = .main ∧ s.restart = .due .full .a 0) ∧
      (let s := { State.reset with restart := .due .traffic .b 3 }
       s.supply = .main ∧ s.restart = .due .traffic .b 3) ∧
      (∀ sc l i d, State.reset.restart ≠ .pending sc l i d) ∧ ∀ sc l i, State.reset.restart ≠ .due sc l i :=
  ⟨fun x => ready_reset 9 0x70 [x], by decide, ⟨rfl, rfl⟩, ⟨rfl, rfl⟩, ⟨rfl, rfl⟩, fun _ _ _ _ h => (nomatch h),
    fun _ _ _ h => nomatch h⟩

theorem witness_SupplyLossStopsCoreDomain :
    State.reset.supply = .main ∧ (after .mainSupplyLoss State.reset).supply = .backup ∧
      (after .mainSupplyLoss State.reset).supply ≠ .main ∧
      Instr.selectionB ∉
        ([.secondStep, .minuteBoundary, .oscillatorStop, .crystalReturn, .grantPresent, .grantLoss, .vbakLoss] :
          List Instr) ∧
      (∀ strap, Instr.selectionB ≠ .coreReset strap) ∧ ∀ strap, Instr.selectionB ≠ .powerOnWithTimeLoss strap :=
  ⟨rfl, by decide +kernel, by decide +kernel, by decide, by simp, by simp⟩

/-! ### Invariants: a frame in EXP, and the selection that takes it -/

/-- A frame in EXP and a SELECTION_B waiting. -/
def selecting : State := { withHead 0 with pending := [.selectionB] }

theorem selecting_steps : ∃ t, step selecting = .next t ∧ t.txB ≠ selecting.txB :=
  ⟨after .selectionB (withHead 0), rfl, by decide +kernel⟩

theorem selecting_blocks : BlocksSafe selecting := by
  refine ⟨?_, ?_, ?_⟩
  · have h : selecting.blockPlaces = allBlocks.tail ++ [0] := by decide +kernel
    rw [h]
    have h0 : 0 :: allBlocks.tail = allBlocks := by decide +kernel
    exact (List.perm_append_singleton 0 _).trans (List.Perm.of_eq h0)
  · decide +kernel
  · intro l
    cases l <;> decide +kernel

theorem selecting_lengths : LengthsSafe selecting := by
  refine ⟨?_, ?_, ?_⟩
  · intro l
    cases l <;> decide +kernel
  · decide +kernel
  · decide +kernel

theorem witness_StepKeepsEveryBlockInOnePlace : BlocksSafe selecting ∧ ∃ t, step selecting = .next t :=
  ⟨selecting_blocks, selecting_steps.imp fun _ h => h.1⟩

theorem witness_StepKeepsFrameLengths :
    BlocksSafe selecting ∧ selecting.settings.inRange = true ∧ LengthsSafe selecting ∧ ∃ t, step selecting = .next t :=
  ⟨selecting_blocks, by decide +kernel, selecting_lengths, selecting_steps.imp fun _ h => h.1⟩

theorem selecting_marks : MarksSafe selecting := by
  refine ⟨by decide +kernel, by decide +kernel, ?_⟩
  intro q h
  exact nomatch h

theorem witness_StepKeepsReleaseMarks : MarksSafe selecting ∧ ∃ t, step selecting = .next t :=
  ⟨selecting_marks, selecting_steps.imp fun _ h => h.1⟩

/-- A window open with its minute running, and the minute boundary at which it counts down. -/
def openAtBoundary : State :=
  { atTime { beforeOne with hour := 1 } (nightWindow .opened 61 200 18) with pending := [.minuteBoundary] }

theorem openAtBoundary_steps : ∃ t, step openAtBoundary = .next t ∧ t.windows[2].state.minutes = 60 :=
  ⟨after .minuteBoundary { openAtBoundary with pending := [] }, rfl, by decide +kernel⟩

theorem witness_StepKeepsWindows : WindowsSafe openAtBoundary ∧ ∃ t, step openAtBoundary = .next t := by
  refine ⟨⟨by decide +kernel, by decide +kernel, ?_⟩, openAtBoundary_steps.imp fun _ h => h.1⟩
  intro _ h
  exact absurd h (by decide)

theorem witness_StepKeepsRanges :
    ClockSafe openAtBoundary ∧ (∃ t, step openAtBoundary = .next t) ∧ selecting.settings.inRange = true ∧
      selecting.grantTimer ≤ 255 ∧ selecting.holdoffTimer ≤ 255 ∧ MemorySafe selecting ∧ selecting.store.mem ≠ [] ∧ ∃ t, step selecting = .next t :=
  ⟨⟨by decide +kernel, by decide +kernel, by decide +kernel⟩, openAtBoundary_steps.imp fun _ h => h.1,
    by decide +kernel, by decide, by decide, ⟨by decide +kernel, by decide +kernel⟩, by decide +kernel,
    selecting_steps.imp fun _ h => h.1⟩

theorem witness_StepKeepsNoticeUnit :
    EventsSafe { State.reset with pending := [.noticeBuild] } ∧
      ∃ t, step { State.reset with pending := [.noticeBuild] } = .next t ∧ t.events.notice.state = .outstanding :=
  ⟨⟨by decide +kernel, by decide +kernel, by decide +kernel⟩, after .noticeBuild State.reset, rfl, by decide +kernel⟩

/-- A response QUEUED in slot 0 of line A and cached, a restart waiting for it, and a SELECTION_A waiting. -/
def selectingSlot : State :=
  { cachedA .queued [0] with restart := .pending .traffic .a 0 2, pending := [.selectionA] }

theorem witness_StepKeepsSlotsAndCaches : AgentSafe selectingSlot ∧ ∃ t, step selectingSlot = .next t := by
  refine ⟨⟨?_, ?_, ?_⟩, after .selectionA { selectingSlot with pending := [] }, rfl⟩
  · intro l
    cases l
    · refine ⟨by decide +kernel, by decide +kernel, by decide +kernel, by decide +kernel, ?_⟩
      rintro c ⟨⟩
      exact ⟨_, rfl, rfl, rfl⟩
    · refine ⟨by decide +kernel, by decide +kernel, by decide +kernel, by decide +kernel, ?_⟩
      rintro c ⟨⟩
  · intro l
    cases l <;> decide +kernel
  · rintro sc l i t ⟨⟩
    exact ⟨by decide +kernel, by decide +kernel⟩

theorem witness_HandlesHeldOnceAndBlocksCounted :
    BlocksSafe selecting ∧ LengthsSafe selecting ∧ selecting.framesHeld = [0] :=
  ⟨selecting_blocks, selecting_lengths, by decide +kernel⟩

/-! ### Octet layouts and the line stream -/

theorem witness_SettingsOctetsRoundTrip :
    Settings.inRange
        { maxFrameLength := 1023, reserve := 128, lowWater := 255, outboundDefault := .discard, inboundDefault := .discard
          noticeLine := none, noticeStation := 0xFE, noticeRepeat := 255, grantTimeout := 255, holdOff := 255
          retryLimit := 7, gapDelimiters := 16, remote := .full } = true ∧
      (Settings.read .off [0, 16, 0, 0, 6, 0, 1, 1, 0, 1, 0, 0, 1]).isSome = true := by decide +kernel

theorem witness_RuleEntryOctetsRoundTrip :
    RuleEntry.inRange
        { rule .both .discard 6 true with probe := some ⟨31, 1, 2⟩, lengths := some ⟨3, 1023⟩ } = true ∧
      (RuleEntry.read [0xFF, 3, 1, 6, 0, 0, 0, 0, 0, 0, 31, 1, 2, 0, 3, 0x03, 0xFF]).isSome = true ∧
      (RuleEntry.read [0xCF, 1, 0, 0, 0, 0, 0, 0, 0, 0, 32, 1, 2, 9, 9, 0, 0]).isSome = true := by decide +kernel

theorem witness_WindowEntryOctetsRoundTrip :
    WindowEntry.inRange
        { enabled := true, minute := 59, hour := some 23, weekdays := some 0x7F, day := some 31, duration := 1439
          budget := 0xFFFFFF, queueSet := 0x7E } = true ∧
      (WindowEntry.read [0xFF, 59, 0xFF, 0xFF, 0xFF, 0, 1, 0, 0, 0, 0xFF]).isSome = true ∧
      (WindowEntry.read [0, 0, 23, 0x01, 1, 0x05, 0x9F, 0, 0, 0, 0x02]).isSome = true := by decide +kernel

theorem witness_EscapedOctetsAreDecoded : (State.reset.receiver .a).escapePending = false := rfl

/-- A receiver of either line in BETWEEN. -/
def between (l : Line) : State := after (.huntDelimiter ⟨l, bitsOf [0xC3]⟩) State.reset

theorem between_blocks (l : Line) : BlocksSafe (between l) := by
  refine ⟨?_, ?_, ?_⟩
  · rw [show (between l).blockPlaces = allBlocks by cases l <;> decide +kernel]
  · cases l <;> decide +kernel
  · intro l'
    cases l <;> cases l' <;> decide +kernel

/-- The frame of 07 whose kind is a delimiter, from either line, the first octet an escape's in the second. -/
theorem witness_FrameSentIsReceivedWhole :
    ∀ l : Line, ∀ os ∈ ([[0x2A, 0x05, 0xC3, 0xC9, 0x10, 0x44], [0xC9, 0x05, 0x12]] : List (List Octet)),
      (∃ body, frameStream os = [0xC3] ++ body ++ [0xC3]) ∧ 3 ≤ os.length ∧
        os.length ≤ (between l).settings.maxFrameLength ∧ (between l).settings.maxFrameLength ≤ 1023 ∧
        (between l).supply = .main ∧ ((between l).receiver l).state = .between ∧ BlocksSafe (between l) ∧
        MemorySafe (between l) ∧
        (if l = .a then (between l).settings.reserve else 0) + chainLength os.length ≤ (between l).freeCount := by
  intro l os hos
  refine ⟨⟨_, rfl⟩, ?_⟩
  simp only [List.mem_cons, List.not_mem_nil, or_false] at hos
  have hb := between_blocks l
  have hm : MemorySafe (between l) := by
    cases l <;> exact ⟨by decide +kernel, by decide +kernel⟩
  rcases hos with rfl | rfl <;> cases l <;>
    exact ⟨by decide +kernel, by decide +kernel, by decide +kernel, by decide +kernel, by decide +kernel, hb, hm,
      by decide +kernel⟩

/-! ### Requests -/

theorem witness_EveryReadyRequestIsAnswered :
    Ready State.reset ⟨.a, 0x05, 9, 0x24, [0]⟩ 0 ∧ requestClass 0x24 [0] ≠ .read ∧ requestClass 0x30 [0] = .read ∧
      Ready State.reset ⟨.a, 0x05, 9, 0x30, [0]⟩ 0 :=
  ⟨ready_reset .., by decide, by decide, ready_reset ..⟩

/-- A line whose slots are all taken, asking on line A. -/
def fullA : State := { State.reset with mgmt := ⟨fullAgent, LineAgent.blank⟩ }

theorem authorised_a {s : State} (h : s.supply = .main) (hm : s.managed = true) (seq code : Octet) (ps : List Octet) :
    Authorised s ⟨.a, 0x05, seq, code, ps⟩ := ⟨h, hm, rfl⟩

theorem witness_DuplicateOverrunAndBusy :
    (let r : Request := ⟨.a, 0x05, 40, 0x30, [2]⟩
     Authorised (cachedA .cached []) r ∧ ((cachedA .cached []).agent .a).cache = some ⟨r.seq, r.code, 0⟩ ∧
       ((cachedA .cached []).agent .a).slots[0].state = .cached ∧ Authorised (cachedA .queued [0]) r ∧
       ((cachedA .queued [0]).agent .a).cache = some ⟨r.seq, r.code, 0⟩ ∧
       ((cachedA .queued [0]).agent .a).slots[0].state ≠ .cached) ∧
      (Authorised fullA ⟨.a, 0x05, 41, 0x30, [2]⟩ ∧ (fullA.agent .a).isDuplicate 41 0x30 = false ∧
        ∀ i : SlotIx, (fullA.agent .a).slots[i].state ≠ .free) ∧
      (let s := { cachedA .queued [0] with restart := .pending .traffic .a 0 2 }
       Authorised s ⟨.a, 0x05, 41, 0x70, [0]⟩ ∧ (s.agent .a).isDuplicate 41 0x70 = false ∧
         (s.agent .a).slots[1].state = .free ∧ (∀ j : SlotIx, j < 1 → (s.agent .a).slots[j].state ≠ .free) ∧
         s.restart ≠ .normal) :=
  ⟨⟨authorised_a rfl (by decide +kernel) .., by decide +kernel, by decide +kernel,
      authorised_a rfl (by decide +kernel) .., by decide +kernel, by decide +kernel⟩,
    ⟨authorised_a rfl (by decide +kernel) .., by decide +kernel, by decide +kernel⟩,
    ⟨authorised_a rfl (by decide +kernel) .., by decide +kernel, by decide +kernel, by decide +kernel,
      by decide +kernel⟩⟩

/-- Each clause of the authority of line B, requests that proceed on each line, and codes of each class. -/
theorem witness_LineBAuthority :
    (State.reset.supply = .main ∧ State.reset.managed = true ∧ State.reset.settings.remote = .off) ∧
      (let s := { State.reset with settings := { State.reset.settings with remote := .readOnly } }
       s.supply = .main ∧ s.managed = true ∧ s.settings.remote = .readOnly ∧ requestClass 0x42 [] ≠ .read ∧
         (s.agent .b).slots[0].state = .free ∧ ∀ j : SlotIx, j < 0 → (s.agent .b).slots[j].state ≠ .free) ∧
      (let s := { cachedB .cached [] with mgmt := ⟨LineAgent.blank, fullAgent⟩ }
       s.supply = .main ∧ s.managed = true ∧ s.settings.remote = .full ∧
         ∀ i : SlotIx, (s.agent .b).slots[i].state ≠ .free) ∧
      (after (.coreReset 0x00) State.reset).supply = .main ∧ (after (.coreReset 0x00) State.reset).station = 0x00 ∧
      (after (.coreReset 0xFF) State.reset).supply = .main ∧ (after (.coreReset 0xFF) State.reset).station = 0xFF ∧
      (let s := { State.reset with settings := { State.reset.settings with remote := .readOnly } }
       s.supply = .main ∧ 0x01 ≤ s.station.toNat ∧ s.station.toNat ≤ 0xFE ∧ s.settings.remote = .readOnly ∧
         requestClass 0x63 [0, 0, 1, 0] = .read ∧ requestClass 0x63 [0, 0, 1, 1] = .write) ∧
      (let s := cachedB .cached []
       s.supply = .main ∧ 0x01 ≤ s.station.toNat ∧ s.station.toNat ≤ 0xFE ∧ s.settings.remote = .full ∧
         (0x42 : Octet) ≠ 0x04) := by
  decide +kernel

theorem witness_ReadsWithoutParametersReport :
    ∀ code ∈ ([0x01, 0x02, 0x10, 0x21, 0x41, 0x60] : List Octet), Ready State.reset ⟨.a, 0x05, 9, code, []⟩ 0 :=
  fun _ _ => ready_reset ..

theorem witness_ReadsOfOnePositionReport :
    (∀ x y : Octet, Ready State.reset ⟨.a, 0x05, 9, 0x20, [x, y]⟩ 0) ∧
      (∀ x : Octet, Ready State.reset ⟨.a, 0x05, 9, 0x30, [x]⟩ 0 ∧ Ready State.reset ⟨.a, 0x05, 9, 0x40, [x]⟩ 0) ∧
      (47 : Octet) = octet (47 : EntryIx).val ∧ 1 < (2 : Octet).toNat ∧ 47 < (48 : Octet).toNat ∧
      (7 : Octet) = octet (7 : QueueIx).val ∧ 7 < (8 : Octet).toNat ∧ (23 : Octet) = octet (23 : WindowIx).val ∧
      23 < (24 : Octet).toNat :=
  ⟨fun _ _ => ready_reset .., fun _ => ⟨ready_reset .., ready_reset ..⟩, by decide⟩

/-- The last position of LINEB alone; one past the group; a count of 0; a count of 49 and a flag of 2 within RULE. -/
theorem witness_ReadCountersReportsAndClears :
    (∀ ps : List Octet, Ready State.reset ⟨.a, 0x05, 9, 0x63, ps⟩ 0) ∧ 4 < (5 : Octet).toNat ∧
      (1 : Octet) = octet (1 : Fin 5).val ∧ (8 : Octet).toNat + (1 : Octet).toNat ≤ groupSize 1 ∧
      (8 : Octet).toNat < groupSize 1 ∧ groupSize 1 ≤ (9 : Octet).toNat ∧
      groupSize 1 < (8 : Octet).toNat + (2 : Octet).toNat ∧ (3 : Octet) = octet (3 : Fin 5).val ∧
      (0 : Octet).toNat < groupSize 3 ∧ (0 : Octet).toNat + (49 : Octet).toNat ≤ groupSize 3 ∧
      48 < (49 : Octet).toNat ∧ (48 : Octet).toNat ≤ 48 ∧ 1 < (2 : Octet).toNat :=
  ⟨fun _ => ready_reset .., by decide⟩

theorem witness_SettingsAreWrittenWhole :
    (∀ ps : List Octet, Ready State.reset ⟨.a, 0x05, 9, 0x03, ps⟩ 0) ∧
      (∀ x : Octet, Ready State.reset ⟨.a, 0x05, 9, 0x04, [x]⟩ 0) ∧ State.reset.settings.octets.length = 13 ∧
      State.reset.settings.inRange = true ∧ (List.replicate 13 (0xFF : Octet)).length = 13 ∧
      (∀ n : Settings, n.inRange = true → List.replicate 13 (0xFF : Octet) ≠ n.octets) ∧ 2 < (3 : Octet).toNat := by
  refine ⟨fun _ => ready_reset .., fun _ => ready_reset .., by decide +kernel, by decide +kernel, by decide, ?_,
    by decide⟩
  intro n h e
  have h7 : (0xFF : Octet) = n.noticeStation := congrArg (fun l => l.getD 7 0) e
  simp [Settings.inRange, ← h7] at h

/-- 29 February of a leap year and of another, with the crystal stopped and running. -/
theorem witness_SetTimeChecksThenLoads :
    (∀ ps : List Octet, Ready State.reset ⟨.a, 0x05, 9, 0x11, ps⟩ 0 ∧
      Ready (atTime beforeOne Window.blank) ⟨.a, 0x05, 9, 0x11, ps⟩ 0) ∧
      State.reset.tk.crystal = .stopped ∧ (atTime beforeOne Window.blank).tk.crystal = .running ∧
      (let days (ye mo : Octet) : Nat :=
        [31, if ye.toNat % 4 = 0 then 29 else 28, 31, 30, 31, 30, 31, 31, 30, 31, 30, 31].getD (mo.toNat - 1) 0
       (29 : Octet).toNat ≤ days 24 2 ∧ ¬(29 : Octet).toNat ≤ days 25 2) :=
  ⟨fun _ => ⟨ready_reset .., ready_a ⟨rfl, by decide +kernel, rfl, rfl⟩ ..⟩, rfl, rfl, by decide⟩

/-- An entry of 17 octets, entries 47 and 48, and bank 1 active. -/
theorem witness_StandbyEditsLeaveActiveBank :
    (∀ (code : Octet) (ps : List Octet), Ready State.reset ⟨.a, 0x05, 9, code, ps⟩ 0 ∧
      Ready { State.reset with classifier := { Classifier.blank with active := true } } ⟨.a, 0x05, 9, code, ps⟩ 0) ∧
      (RuleEntry.read ([0x80, 3, 0, 0] ++ List.replicate 13 0)).isSome = true ∧
      RuleEntry.read (List.replicate 17 0) = none ∧ (47 : Octet) = octet (47 : EntryIx).val ∧
      47 < (48 : Octet).toNat ∧ State.reset.classifier.active = false :=
  ⟨fun _ _ => ⟨ready_reset .., ready_a ⟨rfl, by decide +kernel, rfl, rfl⟩ ..⟩, by decide +kernel, by decide +kernel,
    by decide, by decide, rfl⟩

theorem witness_ActivateSwapsBanks :
    (∀ x : Octet, Ready State.reset ⟨.a, 0x05, 9, 0x24, [x]⟩ 0) ∧ (1 : Octet).toNat ≤ 1 ∧ 1 < (2 : Octet).toNat :=
  ⟨fun _ => ready_reset .., by decide⟩

/-- A limit of 0 and of 1, a fallback of 2 for S6 and for EXP. -/
theorem witness_WriteQueueReplacesSettings :
    (∀ ps : List Octet, Ready State.reset ⟨.a, 0x05, 9, 0x31, ps⟩ 0) ∧ 7 < (8 : Octet).toNat ∧
      (6 : Octet) = octet (6 : QueueIx).val ∧ 1 ≤ (6 : QueueIx).val ∧ (6 : QueueIx).val ≤ 6 ∧ 1 < (2 : Octet).toNat ∧
      (1 : Octet) ≠ 0 ∧ (0 : Octet) = octet (0 : QueueIx).val ∧ ¬1 ≤ (0 : QueueIx).val :=
  ⟨fun _ => ready_reset .., by decide⟩

/-- The frame in S4 and in INB. -/
theorem witness_QueueCommandsAct :
    (∀ (code x : Octet), Ready (withHead 4) ⟨.a, 0x05, 9, code, [x]⟩ 0 ∧ Ready (withHead 7) ⟨.a, 0x05, 9, code, [x]⟩ 0) ∧
      7 < (8 : Octet).toNat ∧ (4 : Octet) = octet (4 : QueueIx).val ∧ 1 ≤ (4 : QueueIx).val ∧ (4 : QueueIx).val ≤ 6 ∧
      (7 : Octet) = octet (7 : QueueIx).val ∧ (7 : QueueIx).val = 7 ∧ ((withHead 4).queue 4).frames ≠ [] :=
  ⟨fun _ _ => ⟨ready_a ⟨rfl, by decide +kernel, rfl, rfl⟩ .., ready_a ⟨rfl, by decide +kernel, rfl, rfl⟩ ..⟩,
    by decide +kernel⟩

/-- Window 2, OPEN, window 23, CLOSED, and window 24, absent; an entry of 11 octets and one of duration 0. -/
theorem witness_WriteWindowClosesThenStores :
    (∀ ps : List Octet, Ready (atTime beforeOne (nightWindow .opened 120 200 18)) ⟨.a, 0x05, 9, 0x42, ps⟩ 0) ∧
      23 < (24 : Octet).toNat ∧ (2 : Octet) = octet (2 : WindowIx).val ∧ (23 : Octet) = octet (23 : WindowIx).val ∧
      (atTime beforeOne (nightWindow .opened 120 200 18)).windows[(2 : WindowIx)].state.phase ≠ .closed ∧
      (atTime beforeOne (nightWindow .opened 120 200 18)).windows[(23 : WindowIx)].state.phase = .closed ∧
      (WindowEntry.read [0x80, 0, 1, 0x80, 0xFF, 0, 1, 0, 0, 0, 0x02]).isSome = true ∧
      WindowEntry.read [0x80, 0, 1, 0x80, 0xFF, 0, 0, 0, 0, 0, 0x02] = none :=
  ⟨fun _ => ready_a ⟨rfl, by decide +kernel, rfl, rfl⟩ .., by decide +kernel⟩

/-- Transmitter B IDLE, REQUESTING a frame and SENDING one. -/
theorem witness_TrunkModeCommands :
    (∀ code : Octet, Ready State.reset ⟨.a, 0x05, 9, code, []⟩ 0 ∧ Ready (requestingB 4 true) ⟨.a, 0x05, 9, code, []⟩ 0 ∧
      Ready (sendingB 4 false none) ⟨.a, 0x05, 9, code, []⟩ 0) ∧
      (∀ f, State.reset.txB.framesHeld ≠ [f]) ∧ (requestingB 4 true).txB = .requesting (.frame 4 0 true none) ∧
      ∃ stream, (sendingB 4 false none).txB = .sending (.frame 4 0 false none) stream :=
  ⟨fun _ => ⟨ready_reset .., ready_a ⟨rfl, by decide +kernel, rfl, rfl⟩ .., ready_a ⟨rfl, by decide +kernel, rfl, rfl⟩ ..⟩,
    fun _ h => (by cases h), rfl, _, rfl⟩

theorem witness_AcknowledgeAndMask :
    ∀ hi lo : Octet, Ready State.reset ⟨.a, 0x05, 9, 0x61, [hi, lo]⟩ 0 ∧
      Ready State.reset ⟨.a, 0x05, 9, 0x62, [hi, lo]⟩ 0 := fun _ _ => ⟨ready_reset .., ready_reset ..⟩

/-! ### Receivers and frame ends -/

/-- The frame in block 0 of `withHead`, of this length, being received. -/
def inProgress (l : Line) (escape : Bool) (length : Nat) (s : State) : State :=
  receiving l escape (length + 2) [0x07, 0x12] 0xFFFF (some 0)
    { withHead 0 with
      queues := State.reset.queues, settings := s.settings
      store :=
        { (withHead 0).store with
          free := s.store.free
          records := (withHead 0).store.records.set 0
            { line := l, length := length, chain := [0], stamp := 0, matched := none, attempts := 0 } } }

/-- After reset with these blocks free. -/
def withFree (free : List Block) : State := { State.reset with store := { State.reset.store with free := free } }

/-- A delimiter alone, first found at its eighth bit. -/
theorem delimiterFirst_c3 : DelimiterFirstAt 0 (bitsOf [0xC3]) 8 := by
  refine ⟨by decide, by decide, fun m h1 h2 => ?_⟩
  interval_cases m <;> decide

/-- A hunt that finds its delimiter, one that finds none, an escape, and an escape pending with no and with two octets
held. -/
theorem witness_ReceiverTakesDelimitersAndEscapes :
    DelimiterFirstAt (State.reset.receiver .b).recent (bitsOf [0xC3]) 8 ∧
      (∀ n, ¬DelimiterFirstAt (State.reset.receiver .b).recent [true, true, false] n) ∧
      (let s := receiving .b true 2 [0x07, 0x12] 0xFFFF none State.reset
       s.supply = .main ∧ (s.receiver .b).state = .inFrame ∧ (s.receiver .b).escapePending = true ∧
         2 ≤ (s.receiver .b).held.length) ∧
    State.reset.supply = .main ∧ (State.reset.receiver .b).state = .seeking ∧ (between .a).supply = .main ∧
      ((between .a).receiver .a).state = .between ∧ (0xC4 : Octet) ≠ 0xC3 ∧ (0xC8 : Octet) ≠ 0xC9 ∧
      (inProgress .a false 1 State.reset).supply = .main ∧
      ((inProgress .a false 1 State.reset).receiver .a).state = .inFrame ∧
      ((inProgress .a false 1 State.reset).receiver .a).escapePending = false ∧
      (let s := receiving .b true 0 [] 0xFFFF none State.reset
       s.supply = .main ∧ (s.receiver .b).state = .inFrame ∧ (s.receiver .b).escapePending = true ∧
         (s.receiver .b).held.length < 2) := by
  refine ⟨delimiterFirst_c3, ?_, by decide +kernel⟩
  rintro n ⟨⟨h1, h2⟩, hf, -⟩
  simp only [List.length_cons, List.length_nil] at h2
  interval_cases n <;> revert hf <;> decide +kernel

/-- A second octet held; the 64th octet of the last block stored, after an escape too. -/
theorem witness_DataOctetHeldOrStored :
    (let s := receiving .a false 1 [0x07] 0xFFFF none State.reset
     s.supply = .main ∧ (s.receiver .a).state = .inFrame ∧ (s.receiver .a).escapePending = false ∧
       (0xC2 : Octet) ≠ 0xC3 ∧ (0xC2 : Octet) ≠ 0xC9 ∧ (s.receiver .a).held.length < 2) ∧
      (let s := inProgress .a true 63 State.reset
       s.supply = .main ∧ (s.receiver .a).state = .inFrame ∧ (s.receiver .a).escapePending = true ∧
         (0xD3 : Octet) ≠ 0xC3 ∧ (0xC3 : Octet) = 0xD3 ^^^ 0x10 ∧ (s.receiver .a).held = [0x07, 0x12] ∧
         (s.receiver .a).handle = some 0 ∧ (s.record 0).length % 64 ≠ 0 ∧
         (s.record 0).length + 1 ≤ s.settings.maxFrameLength ∧ Memory.wf s.store.mem = true) := by decide +kernel

/-- Line A's first claim with 33 blocks free and a reserve of 32; line B's second block, the last one free. -/
theorem witness_DataOctetClaimsBlock :
    (let s := receiving .a false 2 [0x07, 0x12] 0xFFFF none (withFree (allBlocks.drop 479))
     s.supply = .main ∧ (s.receiver .a).state = .inFrame ∧ (s.receiver .a).escapePending = false ∧
       (s.receiver .a).held = [0x07, 0x12] ∧ s.store.free = 479 :: allBlocks.drop 480 ∧
       s.settings.reserve < (allBlocks.drop 480).length + 1 ∧ Memory.wf s.store.mem = true ∧
       (s.receiver .a).handle = none ∧ 1 ≤ s.settings.maxFrameLength ∧ s.store.armed = true ∧
       (allBlocks.drop 480).length ≤ s.settings.lowWater) ∧
      (let s := inProgress .b false 64 (withFree [511])
       s.supply = .main ∧ (s.receiver .b).state = .inFrame ∧ (s.receiver .b).escapePending = false ∧
         (s.receiver .b).held = [0x07, 0x12] ∧ s.store.free = [511] ∧ Memory.wf s.store.mem = true ∧
         (s.receiver .b).handle = some 0 ∧ (s.record 0).length % 64 = 0 ∧
         (s.record 0).length + 1 ≤ s.settings.maxFrameLength) ∧
      State.reset.settings.lowWater < (allBlocks.drop 447).length := by decide +kernel

/-- The 513th octet; line A's claim with 32 blocks free; line B's with none. -/
theorem witness_LongFrameOrFailedClaimRejects :
    (let s := inProgress .a false 512 State.reset
     s.supply = .main ∧ (s.receiver .a).state = .inFrame ∧ (s.receiver .a).escapePending = false ∧
       (0x55 : Octet) ≠ 0xC3 ∧ (0x55 : Octet) ≠ 0xC9 ∧ (s.receiver .a).held = [0x07, 0x12] ∧
       s.settings.maxFrameLength < s.receivedLength .a + 1) ∧
      (let s := receiving .a false 2 [0x07, 0x12] 0xFFFF none (withFree (allBlocks.drop 480))
       s.supply = .main ∧ (s.receiver .a).state = .inFrame ∧ (s.receiver .a).held = [0x07, 0x12] ∧
         s.receivedLength .a + 1 ≤ s.settings.maxFrameLength ∧ (s.receiver .a).handle = none ∧
         s.store.free.length ≤ s.settings.reserve) ∧
      (let s := inProgress .b true 448 (withFree [])
       s.supply = .main ∧ (s.receiver .b).state = .inFrame ∧ (s.receiver .b).escapePending = true ∧
         (s.receiver .b).held = [0x07, 0x12] ∧ s.receivedLength .b + 1 ≤ s.settings.maxFrameLength ∧
         (s.receiver .b).handle = some 0 ∧ s.receivedLength .b % 64 = 0 ∧ s.store.free = []) := by decide +kernel

/-- A runt of 4, a check error of 5, and an abort after an escape. -/
theorem witness_BadFrameEndsRelease :
    (let s := inProgress .a false 2 State.reset
     s.supply = .main ∧ (s.receiver .a).state = .inFrame ∧ (s.receiver .a).escapePending = false ∧
       (s.receiver .a).decoded ≤ 4 ∧ (s.receiver .a).handle = some 0) ∧
      (let s := inProgress .b false 3 State.reset
       s.supply = .main ∧ (s.receiver .b).state = .inFrame ∧ (s.receiver .b).escapePending = false ∧
         5 ≤ (s.receiver .b).decoded ∧ (s.receiver .b).held = [0x07, 0x12] ∧
         (s.receiver .b).check ≠ (0x07 : Octet) ++ (0x12 : Octet)) ∧
      (let s := receiving .b true 0 [] 0xFFFF none State.reset
       s.supply = .main ∧ (s.receiver .b).state = .inFrame ∧ (s.receiver .b).escapePending = true ∧
         (s.receiver .b).handle = none) := by decide +kernel

/-- The end of a rejected frame, and of a cancel marker, each with its reason; and bits that form no delimiter. -/
theorem witness_DiscardingEndsAtDelimiter :
    (∀ why : RejectReason,
      let s := setReceiver .b { State.reset.receiver .b with state := .discarding, reject := some why } State.reset
      s.supply = .main ∧ (s.receiver .b).state = .discarding ∧ (s.receiver .b).reject = some why ∧
        (s.receiver .b).recent = 0) ∧
      DelimiterFirstAt 0 (bitsOf [0xC3]) 8 ∧ (bitsAfter 0 (bitsOf [0xC3]) 8).extractLsb' 8 8 ≠ (0xC9 : Octet) ∧
      DelimiterFirstAt 0 (bitsOf [0xC9, 0xC3]) 16 ∧
      (bitsAfter 0 (bitsOf [0xC9, 0xC3]) 16).extractLsb' 8 8 = (0xC9 : Octet) ∧ ∀ n, ¬DelimiterFirstAt 0 [] n := by
  refine ⟨fun why => by cases why <;> decide +kernel, delimiterFirst_c3, by decide, ?_, by decide, ?_⟩
  · refine ⟨by decide, by decide, fun m h1 h2 => ?_⟩
    interval_cases m <;> decide
  · rintro n ⟨⟨h1, h2⟩, -, -⟩
    simp only [List.length_nil] at h2
    omega

/-- What completing a frame takes, for the three octets of `receivedA`: EXP below its limit, EXP at a limit of 0, and the
default DISCARD. -/
theorem witness_CompleteFrameIsClassified :
    (let s := receivedA [0x30, 0x05, 0x12]
     s.supply = .main ∧ (s.receiver .a).state = .inFrame ∧ (s.receiver .a).escapePending = false ∧
       5 ≤ (s.receiver .a).decoded ∧ (∃ hi lo, (s.receiver .a).held = [hi, lo] ∧ (s.receiver .a).check = hi ++ lo) ∧
       (s.receiver .a).handle = some 0 ∧ (s.record 0).length = (s.receiver .a).decoded - 2 ∧
       s.store.frameOctets 0 = [0x30, 0x05, 0x12] ∧ s.recognises [0x30, 0x05, 0x12] = false ∧
       s.classifier.decide .a [0x30, 0x05, 0x12] = none ∧ s.verdict .a none = .forward 0 ∧
       (s.queue 0).frames.length < (s.queue 0).limit) ∧
      (let s := { receivedA [0x30, 0x05, 0x12] with
         queues := State.reset.queues.set 0 { Queue.blank 0 with frames := List.replicate 32 7 } }
       s.verdict .a none = .forward 0 ∧ (s.queue 0).limit ≤ (s.queue 0).frames.length) ∧
      (let s := { receivedA [0x30, 0x05, 0x12] with
         settings := { State.reset.settings with outboundDefault := .discard } }
       s.verdict .a none = .discard) := by
  refine ⟨⟨by decide +kernel, by decide +kernel, by decide +kernel, by decide +kernel, ?_, by decide +kernel,
    by decide +kernel, by decide +kernel, by decide +kernel, by decide +kernel, by decide +kernel, by decide +kernel⟩,
    by decide +kernel, by decide +kernel⟩
  exact ⟨(checkValue [0x30, 0x05, 0x12]).extractLsb' 8 8, (checkValue [0x30, 0x05, 0x12]).extractLsb' 0 8,
    by decide +kernel, by decide +kernel⟩

/-- A request of two payload octets, and one of none. -/
theorem witness_RecognisedRequestIsTaken :
    ∀ payload ∈ ([[9, 0x01], []] : List (List Octet)),
      let s := receivedA ([0x2A, 0x05, 0xE1] ++ payload)
      s.supply = .main ∧ s.managed = true ∧ (s.receiver .a).state = .inFrame ∧ (s.receiver .a).escapePending = false ∧
        5 ≤ (s.receiver .a).decoded ∧ (∃ hi lo, (s.receiver .a).held = [hi, lo] ∧ (s.receiver .a).check = hi ++ lo) ∧
        (s.receiver .a).handle = some 0 ∧ (s.record 0).length = (s.receiver .a).decoded - 2 ∧
        s.store.frameOctets 0 = [s.station, 0x05, 0xE1] ++ payload := by
  intro payload h
  simp only [List.mem_cons, List.not_mem_nil, or_false] at h
  refine ⟨?_, ?_, ?_, ?_, ?_, ⟨(checkValue ([0x2A, 0x05, 0xE1] ++ payload)).extractLsb' 8 8,
    (checkValue ([0x2A, 0x05, 0xE1] ++ payload)).extractLsb' 0 8, ?_, ?_⟩, ?_, ?_, ?_⟩ <;>
    rcases h with rfl | rfl <;> decide +kernel

/-- A probe at the last payload octet, a length range that is the frame's, and each outcome. -/
theorem witness_EntryTestsAndOutcome :
    (let e := { rule .both .forward 3 true with probe := some ⟨0, 0x07, 0xFF⟩, lengths := some ⟨4, 4⟩ }
     e.examined .a = true ∧ e.passes ([0x30, 0x05, 0x12] ++ [0x07]) = true) ∧
      (let s := { State.reset with classifier := { Classifier.blank with bank0 := bankOf05 } }
       s.classifier.active = false ∧ s.classifier.bank0[(3 : EntryIx)].action = .discard ∧
         s.classifier.bank0[(5 : EntryIx)].action = .forward ∧ (3 : QueueIx).val = (3 : Fin 7).val ∧
         s.settings.outboundDefault = .forward 0 ∧ s.settings.inboundDefault = .forward) ∧
      (let s := { State.reset with
         settings := { State.reset.settings with outboundDefault := .discard, inboundDefault := .discard } }
       s.settings.outboundDefault = .discard ∧ s.settings.inboundDefault = .discard) := by decide +kernel

theorem witness_OutboundClaimsKeepReserve :
    (∃ t, exec (.dataOctet .a 0x12) (receiving .a false 2 [0x30, 0x07] 0xFFFF none State.reset) = .next t ∧
      t.freeCount = 511) ∧
      ∃ t, exec (.closingDelimiter .a) (receivedA [0x2A, 0x05, 0xE1, 9, 0x01]) = .next t ∧ t.freeCount = 512 :=
  ⟨⟨_, rfl, by decide +kernel⟩, _, rfl, by decide +kernel⟩

/-! ### Transmission -/

/-- S4's frame under two open windows, its sponsor the lower of them; S4 and EXP by other grounds; the sources of each line. -/
theorem witness_EligibilitySponsorAndPriority :
    (let s := { withHead 1 with
       tk := { State.reset.tk with timeValid := true }
       windows := (State.reset.windows.set 2 (nightWindow .opened 120 200 18)).set 5 (nightWindow .opened 60 0 3) }
     1 ≤ (1 : QueueIx).val ∧ (1 : QueueIx).val ≤ 6 ∧ s.tk.timeValid = true ∧ (s.queue 1).mark = 0 ∧
       s.windows[(2 : WindowIx)].state.phase = .opened ∧
       s.windows[(2 : WindowIx)].entry.queueSet.getLsbD (1 : QueueIx).val = true ∧
       (∀ v : WindowIx, v < 2 → ¬(s.windows[v].state.phase = .opened ∧
         s.windows[v].entry.queueSet.getLsbD (1 : QueueIx).val = true)) ∧ s.eligible 1 = true ∧
       s.sourceB = some (.queue 1 0)) ∧
      (withHead 1).tk.timeValid = false ∧ ((withHead 1).queue 1).fallback = .hold ∧ (withHead 1).eligible 1 = false ∧
      (withHead 0).eligible 0 = true ∧ ¬1 ≤ (0 : QueueIx).val ∧ ¬(7 : QueueIx).val ≤ 6 ∧
      (withHead 7).sourceA = some (.queue 7 0) ∧ (cachedB .queued [0]).sourceB = some (.slot 0) ∧
      { withHead 0 with trunkMode := .stopped }.sourceB = none ∧ State.reset.sourceA = none := by decide +kernel

/-- No source; a slot; a head without and with B_GNT. -/
theorem witness_SelectionBTakesSource :
    (State.reset.supply = .main ∧ State.reset.sourceB = none) ∧
      (let s := cachedB .queued [0]
       s.supply = .main ∧ s.txB = .idle ∧ s.sourceB = some (.slot 0)) ∧
      (let s := withHead 0
       s.supply = .main ∧ s.txB = .idle ∧ s.sourceB = some (.queue 0 0) ∧ s.grant = false) ∧
      (let s := { withHead 0 with grant := true }
       s.supply = .main ∧ s.txB = .idle ∧ s.sourceB = some (.queue 0 0) ∧ s.grant = true) ∧
      (sendingB 0 false none).supply = .main ∧ (sendingB 0 false none).txB ≠ .idle := by decide +kernel

theorem witness_SelectionATakesSource :
    (withHead 7).supply = .main ∧ (withHead 7).txA = .idle ∧ (withHead 7).sourceA = some (.queue 7 0) ∧
      (cachedA .queued [0]).supply = .main ∧ (cachedA .queued [0]).txA = .idle ∧
      (cachedA .queued [0]).sourceA = some (.slot 0) ∧ State.reset.supply = .main ∧ State.reset.sourceA = none ∧
      (((cachedA .queued [0]).agent .a).slots[(0 : SlotIx)].content).isSome = true := by decide +kernel

theorem witness_GrantAndHoldoffEvents :
    ((requestingB 3 false).supply = .main ∧ (requestingB 3 false).txB = .requesting (.frame 3 0 false none)) ∧
      (let s := { State.reset with txB := .holdoff, holdoffTimer := 10 }
       s.supply = .main ∧ s.txB = .holdoff ∧ (∀ f, s.txB ≠ .requesting f) ∧ ∀ f os, s.txB ≠ .sending f os) ∧
      State.reset.supply = .main ∧ State.reset.txB ≠ .holdoff :=
  ⟨⟨rfl, rfl⟩, ⟨rfl, rfl, fun _ h => (by cases h), fun _ _ h => (by cases h)⟩, rfl, fun h => (by cases h)⟩

/-- The store of `withHead 4`, its frame's attempts counted. -/
def attempted (n : Nat) : Store :=
  { (withHead 4).store with
    records := (withHead 4).store.records.set 0 { (withHead 4).record 0 with attempts := n } }

/-- The third failed attempt of a frame, within the retry limit of 3, and the fourth, beyond it; a timeout and a loss. -/
theorem witness_FailedFrameReturnsOrDrops :
    (let s := { requestingB 4 true with store := attempted 2 }
     s.supply = .main ∧ s.txB = .requesting (.frame 4 0 true none) ∧
       (s.record 0).attempts + 1 ≤ s.settings.retryLimit) ∧
      (let s := { sendingB 4 false (some ⟨2, 18⟩) with store := attempted 3 }
       s.supply = .main ∧ s.txB = .sending (.frame 4 0 false (some ⟨2, 18⟩)) (frameStream [0x30, 0x05, 0x12]) ∧
         s.settings.retryLimit < (s.record 0).attempts + 1) := by decide +kernel

/-- The third failed attempt of a slot, and the first under a retry limit of 0. -/
theorem witness_FailedSlotRequeuesOrEnds :
    (let s := { cachedB .sending [0] with
       mgmt := ⟨LineAgent.blank, (cachedAgent .sending [0]).setSlot 0
         { (cachedAgent .sending [0]).slots[0] with attempts := 2 }⟩
       txB := .requesting (.slot 0), grantTimer := 50 }
     s.supply = .main ∧ s.txB = .requesting (.slot 0) ∧
       (s.agent .b).slots[(0 : SlotIx)].attempts + 1 ≤ s.settings.retryLimit) ∧
      (let s := { cachedB .sending [0] with
         settings := { State.reset.settings with retryLimit := 0 }, txB := .sending (.slot 0) [0xC3] }
       s.supply = .main ∧ s.txB = .sending (.slot 0) [0xC3] ∧
         s.settings.retryLimit < (s.agent .b).slots[(0 : SlotIx)].attempts + 1) := by decide +kernel

/-- A completion with a sponsor and no charge outstanding, and one with a charge outstanding. -/
theorem witness_CompletionBFrameReleasesAndCharges :
    (let s := sendingB 1 false (some ⟨2, 18⟩)
     s.supply = .main ∧
       s.txB = .sending (.frame 1 0 false (some ⟨2, 18⟩)) (frameStream [0x30, 0x05, 0x12]) ∧ s.charge = none) ∧
      ∃ u, exec .charge { sendingB 1 false none with charge := some ⟨600, ⟨2, 18⟩⟩ } = .next u ∧ u.charge = none :=
  ⟨by decide +kernel, after .charge { sendingB 1 false none with charge := some ⟨600, ⟨2, 18⟩⟩ }, rfl,
    by decide +kernel⟩

/-- A slot's completion on line B, with no charge and with one outstanding, a notice's, a slot's and a data frame's on line
A, and lines SENDING and IDLE. -/
theorem witness_CompletionOfSlotsAndLineA :
    (let s := { cachedB .sending [0] with txB := .sending (.slot 0) [0xC3], charge := some ⟨600, ⟨2, 18⟩⟩ }
     s.supply = .main ∧ s.txB = .sending (.slot 0) [0xC3] ∧ ∃ u, exec .charge s = .next u) ∧
      (State.reset.txA = .idle ∧ ∀ f os, State.reset.txB ≠ .sending f os) ∧
    (let s := { cachedB .sending [0] with txB := .sending (.slot 0) [0xC3] }
     s.supply = .main ∧ s.txB = .sending (.slot 0) [0xC3] ∧ s.charge = none ∧ s.holdsNotice .b 0 = false) ∧
      (let s := { State.reset with mgmt := ⟨fullAgent, fullAgent⟩, txA := .sending (.slot 3) [0xC3],
                                   txB := .sending (.slot 3) [0xC3] }
       s.supply = .main ∧ s.txB = .sending (.slot 3) [0xC3] ∧ s.charge = none ∧ s.holdsNotice .b 3 = true ∧
         s.txA = .sending (.slot 3) [0xC3] ∧ s.holdsNotice .a 3 = true) ∧
      (let s := { cachedA .sending [0] with txA := .sending (.slot 0) [0xC3] }
       s.supply = .main ∧ s.txA = .sending (.slot 0) [0xC3] ∧ s.holdsNotice .a 0 = false) ∧
      (let s := { withHead 7 with queues := State.reset.queues, txA := .sending (.frame 7 0 false none) [0xC3] }
       s.supply = .main ∧ s.txA = .sending (.frame 7 0 false none) [0xC3]) :=
  ⟨⟨rfl, rfl, _, rfl⟩, ⟨rfl, fun _ _ h => nomatch h⟩, by decide +kernel⟩

/-! ### The schedule unit and the clocks -/

/-- A charge of 199 against 200 left, one of 200, and one for another instance. -/
theorem witness_ChargeTakenOrIgnored :
    (∀ n ∈ [199, 200],
      let s := { atTime beforeOne (nightWindow .opened 120 200 18) with charge := some ⟨n, ⟨2, 18⟩⟩ }
      s.supply = .main ∧ s.charge = some ⟨n, ⟨2, 18⟩⟩ ∧ s.windows[(2 : WindowIx)].state.phase = .opened ∧
        s.windows[(2 : WindowIx)].state.opening = 18 ∧ s.windows[(2 : WindowIx)].entry.budget ≠ 0 ∧
        s.windows[(2 : WindowIx)].state.budget = 200) ∧
      (let s := { atTime beforeOne (nightWindow .opened 120 200 18) with charge := some ⟨900, ⟨2, 17⟩⟩ }
       s.supply = .main ∧ s.charge = some ⟨900, ⟨2, 17⟩⟩ ∧ s.windows[(2 : WindowIx)].state.opening ≠ 17) := by
  decide +kernel

/-- The last second of the calendar, of a leap February, and one within a minute. -/
theorem witness_CalendarCountsSeconds :
    (⟨59, 59, 23, 6, 31, 12, 99⟩ : Calendar).valid = true ∧ (⟨59, 59, 23, 3, 29, 2, 24⟩ : Calendar).valid = true ∧
      (⟨30, 0, 0, 0, 1, 1, 0⟩ : Calendar).valid = true := by decide

/-- Seconds 58 and 59; a stopped crystal with the divider at 0, at 32766 and at 32767; a stop on backup. -/
theorem witness_SecondStepsStopsAndReturns :
    (let s := atTime { beforeOne with second := 58 } (nightWindow .opened 120 200 18)
     s.supply = .main ∧ s.tk.crystal = .running ∧ s.tk.cal.second + 1 < 60 ∧
       s.windows[(2 : WindowIx)].state.phase ≠ .closed) ∧
      (let s := atTime beforeOne Window.blank
       s.supply = .main ∧ s.tk.crystal = .running ∧ 60 ≤ s.tk.cal.second + 1 ∧
         ∀ w : WindowIx, s.windows[w].state.phase = .closed) ∧
      (State.reset.supply = .main ∧ State.reset.tk.crystal = .stopped ∧ State.reset.tk.divider + 1 < 32768) ∧
      (let s := { State.reset with tk := { State.reset.tk with divider := 32766 } }
       s.tk.crystal = .stopped ∧ s.tk.divider + 1 < 32768) ∧
      (let s := { State.reset with tk := { State.reset.tk with divider := 32767 } }
       s.supply = .main ∧ s.tk.crystal = .stopped ∧ s.tk.divider = 32767) ∧
      (let s := after .mainSupplyLoss (atTime beforeOne Window.blank)
       s.supply = .backup ∧ s.supply ≠ .none ∧ s.tk.crystal = .running) ∧
      (after .vbakLoss (after .mainSupplyLoss (atTime beforeOne Window.blank))).supply = .none := by decide +kernel

/-- 00:59:59 before a CLOSED window of 01:00 opens; the same on backup; a window at its last minute that matches, and one that
does not. -/
theorem witness_MinuteBoundaryClosesAndOpens :
    (let s := atTime beforeOne (nightWindow .closed 0 0 17)
     s.supply = .main ∧ s.supply ≠ .none ∧ s.tk.crystal = .running ∧ 60 ≤ s.tk.cal.second + 1 ∧
       s.tk.timeValid = true ∧ s.windows[(2 : WindowIx)].entry.enabled = true ∧
       s.windows[(2 : WindowIx)].entry.minute = s.tk.cal.tick.minute ∧
       s.windows[(2 : WindowIx)].entry.hour = some s.tk.cal.tick.hour ∧
       s.windows[(2 : WindowIx)].entry.weekdays = none ∧ s.windows[(2 : WindowIx)].entry.day = none ∧
       s.windows[(2 : WindowIx)].state.phase = .closed) ∧
      (let s := after .mainSupplyLoss (atTime beforeOne (nightWindow .closed 0 0 17))
       s.supply = .backup ∧ s.supply ≠ .none ∧ s.tk.crystal = .running ∧ 60 ≤ s.tk.cal.second + 1) ∧
      (∀ phase ∈ [WindowPhase.opened, .spent],
        let s := atTime beforeOne (nightWindow phase 1 200 18)
        s.supply = .main ∧ s.tk.crystal = .running ∧ 60 ≤ s.tk.cal.second + 1 ∧ s.tk.timeValid = true ∧
          s.windows[(2 : WindowIx)].state.phase ≠ .closed ∧ s.windows[(2 : WindowIx)].state.minutes ≤ 1) ∧
      (let s := atTime { beforeOne with hour := 1 } (nightWindow .spent 2 0 18)
       s.supply = .main ∧ s.tk.crystal = .running ∧ 60 ≤ s.tk.cal.second + 1 ∧ s.tk.timeValid = true ∧
         s.windows[(2 : WindowIx)].state.phase ≠ .closed ∧ 1 < s.windows[(2 : WindowIx)].state.minutes ∧
         s.windows[(2 : WindowIx)].entry.hour ≠ some s.tk.cal.tick.hour) := by decide +kernel

/-- S4 with a max age of 600 and a frame of age 600, the next second; and a max age of 0. -/
theorem witness_UptimeSecondAgesQueues :
    (let s := { withHead 4 with
       uptime := 599, queues := (withHead 4).queues.set 4 { (withHead 4).queue 4 with maxAge := 600, mark := 1 } }
     s.supply = .main ∧ (s.queue 4).maxAge ≠ 0 ∧ (s.queue 4).frames = [0] ∧
       (s.queue 4).maxAge ≤ (s.uptime + 1 - (s.record 0).stamp).toNat) ∧
      (withHead 4).supply = .main ∧ ((withHead 4).queue 4).maxAge = 0 ∧ ((withHead 4).queue 4).frames = [0] := by
  decide +kernel

/-! ### Notices -/

/-- OWED with slot 0 FREE, with slots 0 to 2 taken, with all four taken and on an unmanaged part; OUTSTANDING with its timer
at 0 and at 1. -/
theorem witness_NoticesAreBuiltAndRepeated :
    (let s := State.reset
     s.supply = .main ∧ s.events.notice.state = .owed ∧ s.managed = true ∧ s.settings.noticeLine = some .a ∧
       (s.agent .a).slots[(0 : SlotIx)].state = .free) ∧
      (let s := { State.reset with mgmt :=
         ⟨fullAgent.setSlot 3 { fullAgent.slots[3] with state := .free, content := none }, LineAgent.blank⟩ }
       s.supply = .main ∧ s.events.notice.state = .owed ∧ s.managed = true ∧ s.settings.noticeLine = some .a ∧
         (s.agent .a).slots[(3 : SlotIx)].state = .free ∧
         ∀ j : SlotIx, j < 3 → (s.agent .a).slots[j].state ≠ .free) ∧
      (fullA.supply = .main ∧ fullA.settings.noticeLine = some .a ∧
        ∀ i : SlotIx, (fullA.agent .a).slots[i].state ≠ .free) ∧
      (after (.coreReset 0x00) State.reset).managed = false ∧
      (let s := { State.reset with events :=
         { EventUnit.blank with
           states := EventUnit.blank.states.set 2 .reported
           notice := { state := .outstanding, number := 5, timer := some 0 } } }
       s.supply = .main ∧ s.events.notice.state = .outstanding ∧ s.events.notice.timer = some 0) ∧
      (let s := { State.reset with events :=
         { EventUnit.blank with
           states := EventUnit.blank.states.set 2 .reported
           notice := { state := .outstanding, number := 5, timer := some 1 } } }
       s.supply = .main ∧ s.events.notice.timer ≠ some 0) := by decide +kernel

end Sys2Proof.Tests
end

section
/-! SUPPORT. SET TIME (R53, R54): the calendar it gives, the checks on it, and the load, each said once; and the statement
settled from them. -/

namespace Sys2Proof.Machine

/-- R53: the calendar time that seven octets in the order of SET TIME give. -/
def Calendar.given (se mi ho wd da mo ye : Octet) : Calendar :=
  { second := se.toNat, minute := mi.toNat, hour := ho.toNat, weekday := wd.toNat
    day := da.toNat, month := mo.toNat, year := ye.toNat }

/-- R209: reading seven octets is the validity check on the calendar they give. -/
theorem Calendar.read_seven (se mi ho wd da mo ye : Octet) :
    Calendar.read [se, mi, ho, wd, da, mo, ye] =
      if (given se mi ho wd da mo ye).valid then some (given se mi ho wd da mo ye) else none := rfl

/-- R210: a calendar given by octets is reported by the same octets. -/
@[simp] theorem Calendar.octets_given (se mi ho wd da mo ye : Octet) :
    (given se mi ho wd da mo ye).octets = [se, mi, ho, wd, da, mo, ye] := by
  simp [Calendar.octets, given, octet]

/-- R48: the days of the twelve months of a year. -/
def monthTable (year : Nat) : List Nat :=
  [31, if year % 4 = 0 then 29 else 28, 31, 30, 31, 30, 31, 31, 30, 31, 30, 31]

theorem daysIn_eq_monthTable {month : Nat} (year : Nat) (h1 : 1 ≤ month) (h12 : month ≤ 12) :
    daysIn month year = (monthTable year).getD (month - 1) 0 := by
  interval_cases month <;> simp [daysIn, monthTable]

/-- R47, R53: the validity check as a proposition, the days of the month taken from the table. -/
theorem Calendar.valid_iff (c : Calendar) :
    c.valid = true ↔
      c.second ≤ 59 ∧ c.minute ≤ 59 ∧ c.hour ≤ 23 ∧ c.weekday ≤ 6 ∧ c.year ≤ 99 ∧ 1 ≤ c.month ∧ c.month ≤ 12 ∧
        1 ≤ c.day ∧ c.day ≤ (monthTable c.year).getD (c.month - 1) 0 := by
  simp only [Calendar.valid, Bool.and_eq_true, decide_eq_true_eq]
  constructor
  · rintro ⟨⟨⟨⟨⟨⟨⟨⟨hse, hmi⟩, hho⟩, hwd⟩, hm1⟩, hm12⟩, hye⟩, hd1⟩, hd⟩
    exact ⟨hse, hmi, hho, hwd, hye, hm1, hm12, hd1, daysIn_eq_monthTable c.year hm1 hm12 ▸ hd⟩
  · rintro ⟨hse, hmi, hho, hwd, hye, hm1, hm12, hd1, hd⟩
    exact ⟨⟨⟨⟨⟨⟨⟨⟨hse, hmi⟩, hho⟩, hwd⟩, hm1⟩, hm12⟩, hye⟩, hd1⟩, daysIn_eq_monthTable c.year hm1 hm12 ▸ hd⟩

/-- R54: the load changes the calendar, the divider and TIME_VALID, and the event unit. -/
theorem loadTime_eq (c : Calendar) (s : State) :
    loadTime c s =
      { s with
        tk := { s.tk with cal := c, divider := 0, timeValid := true }
        events := (loadTime c s).events } := rfl

/-- R54: the load raises TIME_SET. -/
theorem loadTime_raised (c : Calendar) (s : State) :
    Raised s.settings.noticeRepeat .timeSet s.events (loadTime c s).events := raise_raised ..

/-- R56, R210: the time record after a load while the crystal runs. -/
theorem timeRecord_loadTime {s : State} (c : Calendar) (h : s.tk.crystal = .running) :
    (loadTime c s).timeRecord = c.octets ++ [0xC0] ++ be32 s.uptime ++ be16 s.tk.generation := by
  simp [State.timeRecord, loadTime, flagBit, h]

section
variable {se mi ho wd da mo ye : Octet} {l : Line} {i : SlotIx} {s : State}

/-- R53, check 1. -/
theorem runSetTime_badValue (h : ¬(Calendar.given se mi ho wd da mo ye).valid = true) :
    runSetTime l i [se, mi, ho, wd, da, mo, ye] s = refuse .badValue s := by
  simp [runSetTime, Calendar.read_seven, h]

/-- R53, check 2. -/
theorem runSetTime_notRunning (h : (Calendar.given se mi ho wd da mo ye).valid = true)
    (hc : s.tk.crystal = .stopped) :
    runSetTime l i [se, mi, ho, wd, da, mo, ye] s = refuse .notRunning s := by
  simp [runSetTime, Calendar.read_seven, h, hc]

/-- R54: both checks passed. -/
theorem runSetTime_ok (h : (Calendar.given se mi ho wd da mo ye).valid = true) (hc : s.tk.crystal = .running) :
    runSetTime l i [se, mi, ho, wd, da, mo, ye] s =
      carryOut ([se, mi, ho, wd, da, mo, ye, 0xC0] ++ be32 s.uptime ++ be16 s.tk.generation)
        (loadTime (Calendar.given se mi ho wd da mo ye) s) := by
  simp [runSetTime, Calendar.read_seven, h, hc, timeRecord_loadTime]

end

/-- Settles O28: the request is ready, so it runs, and each outcome of the two checks gives its answer. -/
theorem setTimeChecksThenLoads : Obligations.SetTimeChecksThenLoads := by
  intro l src seq se mi ho wd da mo ye i s hready
  have hvalid := Calendar.valid_iff (Calendar.given se mi ho wd da mo ye)
  refine ⟨_, requestCommand_ready (run := runSetTime) hready, fun hbad => ?_, fun hok hstop => ?_, fun hok hrun => ?_⟩
  · exact answered_of_run (runSetTime_badValue (mt hvalid.mp hbad)) rfl hready fun _ => rfl
  · exact answered_of_run (runSetTime_notRunning (hvalid.mpr hok) hstop) rfl hready fun _ => rfl
  · exact ⟨loadTime (Calendar.given se mi ho wd da mo ye) s,
      answered_of_run (runSetTime_ok (hvalid.mpr hok) hrun) rfl hready (fun h => absurd rfl h),
      loadTime_eq _ s, loadTime_raised _ s⟩

end Sys2Proof.Machine
end

section
/-! SUPPORT. Classification (R92 to R98): the tests of an entry as propositions, the search as the first entry that ends it,
and the outcome of an entry or a default action; and the statements settled from them. -/

namespace Sys2Proof.Machine

/-! ### The search of the active bank (R96) -/

/-- The first index that passes a test, as an equivalence. -/
theorem find_finRange_eq_some_iff {n : Nat} (p : Fin n → Bool) (i : Fin n) :
    (List.finRange n).find? p = some i ↔ p i = true ∧ ∀ j < i, p j = false := by
  refine ⟨fun h => ?_, fun ⟨hi, hbefore⟩ => find_finRange p i hi hbefore⟩
  obtain ⟨hi, k, hk, hget, hbefore⟩ := List.find?_eq_some_iff_getElem.mp h
  obtain rfl : i.val = k := by simp [← hget]
  exact ⟨hi, fun j hj => by simpa using hbefore j.val hj⟩

/-- R96: the search ends at an entry that is examined and either matches or has its last flag set. -/
def RuleEntry.endsSearch (e : RuleEntry) (l : Line) (os : List Octet) : Bool :=
  e.examined l && (e.passes os || e.last)

theorem RuleEntry.endsSearch_iff (e : RuleEntry) (l : Line) (os : List Octet) :
    e.endsSearch l os = true ↔ e.examined l = true ∧ (e.passes os = true ∨ e.last = true) := by
  simp [endsSearch]

theorem RuleEntry.endsSearch_eq_false_iff (e : RuleEntry) (l : Line) (os : List Octet) :
    e.endsSearch l os = false ↔ (e.examined l = true → e.passes os = false ∧ e.last = false) := by
  simp [endsSearch]

/-- R96: the search answers the first entry that ends it, if that entry matches. -/
theorem searchFrom_eq_filter_find (bank : Vector RuleEntry 48) (l : Line) (os : List Octet) (entries : List EntryIx) :
    searchFrom bank l os entries =
      (entries.find? fun i => bank[i].endsSearch l os).filter fun i => bank[i].passes os := by
  induction entries with
  | nil => rfl
  | cons i rest ih =>
    rw [searchFrom]
    cases hends : bank[i].endsSearch l os with
    | true =>
      obtain ⟨hex, hpass | hlast⟩ := (RuleEntry.endsSearch_iff ..).mp hends
      · simp only [List.find?_cons, hends, Option.filter_some, hex, hpass, if_true]
      · simp only [List.find?_cons, hends, Option.filter_some, hex, hlast, if_true]
    | false =>
      have hskip := (RuleEntry.endsSearch_eq_false_iff ..).mp hends
      simp only [List.find?_cons, hends, ← ih]
      split
      · next hex =>
        obtain ⟨hfails, hlast⟩ := hskip hex
        simp only [hfails, hlast, Bool.false_eq_true, if_false]
      · rfl

theorem Classifier.decide_eq_filter_find (c : Classifier) (l : Line) (os : List Octet) :
    c.decide l os =
      ((List.finRange 48).find? fun i => (c.bank c.active)[i].endsSearch l os).filter
        fun i => (c.bank c.active)[i].passes os :=
  searchFrom_eq_filter_find ..

/-- R96: an entry decides. -/
theorem Classifier.decide_eq_some_iff (c : Classifier) (l : Line) (os : List Octet) (i : EntryIx) :
    c.decide l os = some i ↔
      (c.bank c.active)[i].examined l = true ∧ (c.bank c.active)[i].passes os = true ∧
        ∀ j < i, (c.bank c.active)[j].examined l = true →
          (c.bank c.active)[j].passes os = false ∧ (c.bank c.active)[j].last = false := by
  simp only [decide_eq_filter_find, Option.filter_eq_some_iff, find_finRange_eq_some_iff, RuleEntry.endsSearch_iff,
    RuleEntry.endsSearch_eq_false_iff]
  constructor
  · rintro ⟨⟨⟨hex, -⟩, hbefore⟩, hpass⟩
    exact ⟨hex, hpass, hbefore⟩
  · rintro ⟨hex, hpass, hbefore⟩
    exact ⟨⟨⟨hex, .inl hpass⟩, hbefore⟩, hpass⟩

/-- R96: no entry decides. Where an examined entry matches, the first entry that ends the search stands before it. -/
theorem Classifier.decide_eq_none_iff (c : Classifier) (l : Line) (os : List Octet) :
    c.decide l os = none ↔
      ∀ i : EntryIx, (c.bank c.active)[i].examined l = true → (c.bank c.active)[i].passes os = true →
        ∃ j < i, (c.bank c.active)[j].examined l = true ∧ (c.bank c.active)[j].passes os = false ∧
          (c.bank c.active)[j].last = true := by
  constructor
  · intro hnone i hex hpass
    have hends : (c.bank c.active)[i].endsSearch l os = true := (RuleEntry.endsSearch_iff ..).mpr ⟨hex, .inl hpass⟩
    rw [decide_eq_filter_find] at hnone
    cases hfind : (List.finRange 48).find? fun i => (c.bank c.active)[i].endsSearch l os with
    | none => exact absurd hends (List.find?_eq_none.mp hfind i (List.mem_finRange i))
    | some j =>
      obtain ⟨hj, hbefore⟩ := (find_finRange_eq_some_iff _ j).mp hfind
      obtain ⟨hjex, hjmatch⟩ := (RuleEntry.endsSearch_iff ..).mp hj
      have hjfails : ¬(c.bank c.active)[j].passes os = true := by
        rw [hfind] at hnone
        exact Option.filter_eq_none_iff.mp hnone j rfl
      have hne : j ≠ i := fun h => hjfails (h ▸ hpass)
      have hle : j ≤ i := not_lt.mp fun h => Bool.eq_false_iff.mp (hbefore i h) hends
      exact ⟨j, lt_of_le_of_ne hle hne, hjex, Bool.eq_false_iff.mpr hjfails, hjmatch.resolve_left hjfails⟩
  · intro hstopped
    by_contra hsome
    obtain ⟨i, hi⟩ := Option.ne_none_iff_exists'.mp hsome
    obtain ⟨hex, hpass, hbefore⟩ := (decide_eq_some_iff ..).mp hi
    obtain ⟨j, hj, hjex, -, hlast⟩ := hstopped i hex hpass
    exact Bool.eq_false_iff.mp (hbefore j hj hjex).2 hlast

/-- Settles O44: the search answers the first entry that ends it, if that entry matches. -/
theorem searchFindsFirstMatch : Obligations.SearchFindsFirstMatch :=
  fun c l os => ⟨c.decide_eq_some_iff l os, c.decide_eq_none_iff l os⟩

/-! ### The tests of an entry (R92 to R95) -/

/-- R95: an entry is examined when it is valid and its direction is that of the line's frames, or BOTH. -/
theorem RuleEntry.examined_iff (e : RuleEntry) (l : Line) :
    e.examined l = true ↔ e.valid = true ∧
      (e.direction = .both ∨ (e.direction = .outbound ∧ l = .a) ∨ (e.direction = .inbound ∧ l = .b)) := by
  cases hd : e.direction <;> cases l <;> simp [examined, hd, Direction.agrees]

/-- R92: a value and mask test. -/
theorem OctetMatch.passes_iff (m : OctetMatch) (o : Octet) : m.passes o = true ↔ o &&& m.mask = m.value &&& m.mask :=
  beq_iff_eq

/-- R93: the payload probe, for a frame of three header octets and this payload. -/
theorem probePasses_iff (probe : Option Probe) (dst src kind : Octet) (payload : List Octet) :
    probePasses probe ([dst, src, kind] ++ payload) = true ↔
      ∀ p, probe = some p → ∃ hp : p.offset < payload.length, payload[p.offset] &&& p.mask = p.value &&& p.mask := by
  cases probe with
  | none => simp [probePasses]
  | some p =>
    have hplace : (dst :: src :: kind :: payload)[3 + p.offset]? = payload[p.offset]? := by
      rw [Nat.add_comm]
      rfl
    by_cases hp : p.offset < payload.length <;> simp [probePasses, hplace, hp]

/-- R94: the length range. -/
theorem lengthPasses_iff (range : Option LengthRange) (length : Nat) :
    lengthPasses range length = true ↔ ∀ r, range = some r → r.minimum ≤ length ∧ length ≤ r.maximum := by
  cases range <;> simp [lengthPasses]

/-- R95: the five tests, for a frame of three header octets and this payload. -/
theorem RuleEntry.passes_iff (e : RuleEntry) (dst src kind : Octet) (payload : List Octet) :
    e.passes ([dst, src, kind] ++ payload) = true ↔
      dst &&& e.destination.mask = e.destination.value &&& e.destination.mask ∧
      src &&& e.source.mask = e.source.value &&& e.source.mask ∧
      kind &&& e.kind.mask = e.kind.value &&& e.kind.mask ∧
      (∀ p, e.probe = some p →
        ∃ hp : p.offset < payload.length, payload[p.offset] &&& p.mask = p.value &&& p.mask) ∧
      ∀ r, e.lengths = some r → r.minimum ≤ payload.length + 3 ∧ payload.length + 3 ≤ r.maximum := by
  have hdst : frameOctet ([dst, src, kind] ++ payload) 0 = dst := rfl
  have hsrc : frameOctet ([dst, src, kind] ++ payload) 1 = src := rfl
  have hkind : frameOctet ([dst, src, kind] ++ payload) 2 = kind := rfl
  have hlength : ([dst, src, kind] ++ payload).length = payload.length + 3 := by simp
  rw [passes, hdst, hsrc, hkind, hlength]
  simp only [Bool.and_eq_true, OctetMatch.passes_iff, probePasses_iff, lengthPasses_iff, and_assoc]

/-! ### The outcome (R98) -/

/-- R98: an entry whose action is DISCARD. -/
theorem RuleEntry.verdict_discard {e : RuleEntry} (h : e.action = .discard) (l : Line) : e.verdict l = .discard := by
  simp [verdict, h]

/-- R98: an entry whose action is FORWARD: line A's frames go to its queue, line B's to INB. -/
theorem RuleEntry.verdict_forward {e : RuleEntry} (h : e.action = .forward) :
    e.verdict .a = .forward (outQueue e.queue) ∧ e.verdict .b = .forward 7 := by
  simp [verdict, h, queueInb]

theorem eq_outQueue {q : QueueIx} {k : Fin 7} (h : q.val = k.val) : outQueue k = q := Fin.ext h.symm

/-- Settles O45: each test and each outcome by its own lemma. -/
theorem entryTestsAndOutcome : Obligations.EntryTestsAndOutcome := by
  refine ⟨fun e l dst src kind payload => ⟨e.examined_iff l, e.passes_iff dst src kind payload⟩, fun s i => ?_⟩
  have hentry : ∀ l, s.verdict l (some i) =
      (if s.classifier.active then s.classifier.bank1[i] else s.classifier.bank0[i]).verdict l := by
    intro l
    simp only [State.verdict, Classifier.bank]
    split <;> rfl
  refine ⟨fun hdiscard l => ?_, fun hforward => ⟨?_, fun q hq => ?_⟩, fun k q hq hdef => ?_, fun hdef => ?_,
    fun hdef => ?_, fun hdef => ?_⟩
  · rw [hentry, RuleEntry.verdict_discard hdiscard]
  · rw [hentry, (RuleEntry.verdict_forward hforward).2]
  · rw [hentry, (RuleEntry.verdict_forward hforward).1, eq_outQueue hq]
  · simp [State.verdict, defaultVerdict, hdef, eq_outQueue hq]
  · simp [State.verdict, defaultVerdict, hdef]
  · simp [State.verdict, defaultVerdict, hdef, queueInb]
  · simp [State.verdict, defaultVerdict, hdef]

end Sys2Proof.Machine
end

section
/-! SUPPORT. The standby bank (R102, R103) and the activation (R105, R106): what each does to the classifier and what its
execution answers, said once; and the statements settled from them. -/

namespace Sys2Proof.Machine

/-! ### The two banks -/

/-- R102, R103: the standby bank replaced by an edit of it. -/
def Classifier.editStandby (c : Classifier) (edit : Vector RuleEntry 48 → Vector RuleEntry 48) : Classifier :=
  c.setBank c.standby (edit (c.bank c.standby))

/-- R102: WRITE RULE edits one entry. -/
theorem Classifier.writeEntry_eq_editStandby (c : Classifier) (i : EntryIx) (e : RuleEntry) :
    c.writeEntry i e = c.editStandby fun bank => bank.set i.val e i.isLt := rfl

/-- R103: CLEAR STANDBY replaces the whole bank. -/
theorem Classifier.clear_eq_editStandby (c : Classifier) :
    c.setBank c.standby clearedBank = c.editStandby fun _ => clearedBank := rfl

/-- R101: while bank 0 is active, bank 1 is edited. -/
theorem Classifier.editStandby_of_inactive {c : Classifier} (h : c.active = false)
    (edit : Vector RuleEntry 48 → Vector RuleEntry 48) : c.editStandby edit = { c with bank1 := edit c.bank1 } := by
  simp [editStandby, setBank, bank, standby, h]

/-- R101: while bank 1 is active, bank 0 is edited. -/
theorem Classifier.editStandby_of_active {c : Classifier} (h : c.active = true)
    (edit : Vector RuleEntry 48 → Vector RuleEntry 48) : c.editStandby edit = { c with bank0 := edit c.bank0 } := by
  simp [editStandby, setBank, bank, standby, h]

/-- R102, R103: an edit of the standby bank leaves every classification as it was. -/
theorem Classifier.decide_editStandby (c : Classifier) (edit : Vector RuleEntry 48 → Vector RuleEntry 48) (l : Line)
    (os : List Octet) : (c.editStandby edit).decide l os = c.decide l os := by
  cases h : c.active with
  | false => simp [editStandby_of_inactive h, decide, bank, h]
  | true => simp [editStandby_of_active h, decide, bank, h]

/-- R105, R106: the classifier after an activation. -/
theorem Classifier.activate_eq (c : Classifier) (copy : Bool) :
    c.activate copy =
      { active := !c.active
        activations := c.activations + 1
        bank0 := if copy = true ∧ c.active = false then c.bank1 else c.bank0
        bank1 := if copy = true ∧ c.active = true then c.bank0 else c.bank1 } := by
  cases copy <;> cases h : c.active <;> simp [activate, setBank, bank, standby, h]

/-! ### The request event -/

/-- R158: the request event's own part leaves the classifier as the execution left it. -/
@[simp] theorem classifier_execute (run : Execution) (r : Request) (i : SlotIx) (s : State) :
    (execute run r i s).classifier = (run r.line i r.params s).state.classifier := rfl

/-- R209: an entry index is read back from its octet. -/
theorem readEntryIx_octet (ix : EntryIx) : readEntryIx (octet ix.val) = some ix := by
  have hix : ix.val % 2 ^ 8 = ix.val := Nat.mod_eq_of_lt (by omega)
  simp only [readEntryIx, octet, BitVec.toNat_ofNat, hix, ix.isLt, dif_pos]

theorem readEntryIx_eq_none {x : Octet} (h : 47 < x.toNat) : readEntryIx x = none := dif_neg (by omega)

theorem readEntryIx_eq_some {x : Octet} (h : x.toNat ≤ 47) : ∃ ix, readEntryIx x = some ix := ⟨_, dif_pos (by omega)⟩

/-- R208: an octet above 1 is neither yes nor no. -/
theorem readYesNo_eq_none {x : Octet} (h : 1 < x.toNat) : readYesNo x = none := by
  have h0 : x ≠ 0 := by rintro rfl; simp at h
  have h1 : x ≠ 1 := by rintro rfl; simp at h
  rw [readYesNo, if_neg h0, if_neg h1]

/-- R208: an octet up to 1 is yes where it is 1, and no where it is 0. -/
theorem readYesNo_eq_some {x : Octet} (h : x.toNat ≤ 1) : readYesNo x = some (decide (x = 1)) := by
  have hx : x = 0 ∨ x = 1 := by bv_omega
  obtain rfl | rfl := hx <;> rfl

/-! ### WRITE RULE and CLEAR STANDBY -/

section
variable {l : Line} {i : SlotIx} {x : Octet} {es : List Octet} {s : State}

/-- R177, the index. -/
theorem runWriteRule_badIndex (hlen : es.length = 17) (hx : 47 < x.toNat) :
    runWriteRule l i (x :: es) s = refuse .badIndex s := by
  simp [runWriteRule, hlen, readEntryIx_eq_none hx]

/-- R177, the entry. -/
theorem runWriteRule_badValue (hlen : es.length = 17) (hx : x.toNat ≤ 47) (hread : RuleEntry.read es = none) :
    runWriteRule l i (x :: es) s = refuse .badValue s := by
  obtain ⟨ix, hix⟩ := readEntryIx_eq_some hx
  simp [runWriteRule, hlen, hix, hread]

/-- R102: index and entry in range. -/
theorem runWriteRule_ok {e : RuleEntry} (ix : EntryIx) (hlen : es.length = 17) (hread : RuleEntry.read es = some e) :
    runWriteRule l i (octet ix.val :: es) s =
      carryOut [yesNo s.classifier.standby]
        { s with classifier := s.classifier.editStandby fun bank => bank.set ix.val e ix.isLt } := by
  simp [runWriteRule, hlen, readEntryIx_octet, hread, Classifier.writeEntry_eq_editStandby]

/-- R103: CLEAR STANDBY has nothing to check. -/
theorem runClearStandby_ok :
    runClearStandby l i [] s =
      carryOut [yesNo s.classifier.standby]
        { s with classifier := s.classifier.editStandby fun _ => clearedBank } := by
  rw [← Classifier.clear_eq_editStandby]
  rfl

end

/-- R178: bank 1 is reported while bank 0 is active. -/
theorem yesNo_standby_of_inactive {c : Classifier} (h : c.active = false) : yesNo c.standby = 1 := by
  simp [yesNo, Classifier.standby, h]

/-- R178: bank 0 is reported while bank 1 is active. -/
theorem yesNo_standby_of_active {c : Classifier} (h : c.active = true) : yesNo c.standby = 0 := by
  simp [yesNo, Classifier.standby, h]

/-- R102, R103: what an edit of the standby bank answers and leaves, by the bank that is active. -/
theorem answered_of_editStandby {run : Execution} {r : Request} {i : SlotIx} {s : State}
    {edit : Vector RuleEntry 48 → Vector RuleEntry 48} (hready : Ready s r i)
    (hrun : run r.line i r.params s =
      carryOut [yesNo s.classifier.standby] { s with classifier := s.classifier.editStandby edit }) :
    (s.classifier.active = false → Answered r i .ok [1]
      { s with classifier := { s.classifier with bank1 := edit s.classifier.bank1 } } (execute run r i s)) ∧
    (s.classifier.active = true → Answered r i .ok [0]
      { s with classifier := { s.classifier with bank0 := edit s.classifier.bank0 } } (execute run r i s)) ∧
    ∀ (line : Line) (os : List Octet), (execute run r i s).classifier.decide line os = s.classifier.decide line os := by
  refine ⟨fun hbank => ?_, fun hbank => ?_, fun line os => ?_⟩
  · rw [yesNo_standby_of_inactive hbank, Classifier.editStandby_of_inactive hbank] at hrun
    exact answered_of_run hrun rfl hready (absurd rfl)
  · rw [yesNo_standby_of_active hbank, Classifier.editStandby_of_active hbank] at hrun
    exact answered_of_run hrun rfl hready (absurd rfl)
  · rw [classifier_execute, hrun]
    exact Classifier.decide_editStandby ..

/-- Settles O29: both requests are ready, so they run; each edits the standby bank, whichever it is, and no search reads
that bank. -/
theorem standbyEditsLeaveActiveBank : Obligations.StandbyEditsLeaveActiveBank := by
  intro l src seq x es i s
  refine ⟨fun hready hlen => ⟨_, requestCommand_ready (run := runWriteRule) hready, fun hx => ?_, fun hx hread => ?_,
    fun e ix hx hread => ?_⟩, fun hready => ⟨_, requestCommand_ready (run := runClearStandby) hready, ?_⟩⟩
  · exact answered_of_run (runWriteRule_badIndex hlen hx) rfl hready fun _ => rfl
  · exact answered_of_run (runWriteRule_badValue hlen hx hread) rfl hready fun _ => rfl
  · subst hx
    exact answered_of_editStandby hready (runWriteRule_ok ix hlen hread)
  · exact answered_of_editStandby hready runClearStandby_ok

/-! ### ACTIVATE -/

/-- R105: an activation changes the classifier, the counters and the event unit. -/
theorem activate_eq (copy : Bool) (s : State) :
    activate copy s =
      { s with
        classifier := s.classifier.activate copy
        counters := (activate copy s).counters, events := (activate copy s).events } := rfl

@[simp] theorem classifier_activate (copy : Bool) (s : State) :
    (activate copy s).classifier = s.classifier.activate copy := rfl

/-- R105, R204: the counters of the group RULE, places 64 to 113, are set to 0, and no other. -/
theorem activate_counters (copy : Bool) (s : State) (k : Fin 121) :
    (activate copy s).counters[k] = if 64 ≤ k.val ∧ k.val < 114 then 0 else s.counters[k] :=
  mapTable_get_fin ..

/-- R105: an activation raises BANK_ACTIVATED. -/
theorem activate_raised (copy : Bool) (s : State) :
    Raised s.settings.noticeRepeat .bankActivated s.events (activate copy s).events := raise_raised ..

section
variable {l : Line} {i : SlotIx} {x : Octet} {s : State}

/-- R178, the copy flag. -/
theorem runActivate_badValue (hx : 1 < x.toNat) : runActivate l i [x] s = refuse .badValue s := by
  simp [runActivate, readYesNo_eq_none hx]

/-- R178: the new active bank and the activation count are reported. -/
theorem runActivate_ok (hx : x.toNat ≤ 1) :
    runActivate l i [x] s =
      carryOut ([if s.classifier.active then 0 else 1] ++ be16 (s.classifier.activations + 1))
        (activate (decide (x = 1)) s) := by
  cases hbank : s.classifier.active <;>
    simp [runActivate, readYesNo_eq_some hx, Classifier.activate_eq, yesNo, hbank]

end

/-- Settles O30: the request is ready, so it runs; a flag in range activates, with a copy where it is 1. -/
theorem activateSwapsBanks : Obligations.ActivateSwapsBanks := by
  intro l src seq x i s hready
  refine ⟨_, requestCommand_ready (run := runActivate) hready, fun hx => ?_, fun hx => ?_⟩
  · exact answered_of_run (runActivate_badValue hx) rfl hready fun _ => rfl
  · refine ⟨activate (decide (x = 1)) s, answered_of_run (runActivate_ok hx) rfl hready (absurd rfl), ?_,
      activate_counters _ s, activate_raised _ s⟩
    rw [activate_eq, Classifier.activate_eq]
    simp only [decide_eq_true_eq]

end Sys2Proof.Machine
end

section
/-! SUPPORT. WRITE SETTINGS and SET REMOTE ACCESS (R172, R173): the octets of the settings record and their readers,
each the inverse of the other; what the two executions answer; and the statement settled from them. -/

namespace Sys2Proof.Machine

/-! ### The fields of the record (R208, R209) -/

@[simp] theorem octet_toNat (o : Octet) : octet o.toNat = o := by simp [octet]

/-- R208: exactly the codes of the REMOTE values are read. -/
theorem readRemote_eq_some_iff {o : Octet} {v : Remote} : readRemote o = some v ↔ v.code = o := by
  constructor
  · unfold readRemote
    split_ifs with h0 h1 h2 <;> rintro ⟨⟩
    exacts [h0.symm, h1.symm, h2.symm]
  · rintro rfl
    cases v <;> rfl

/-- R208: an octet above 2 is no REMOTE value. -/
theorem readRemote_eq_none {o : Octet} (h : 2 < o.toNat) : readRemote o = none := by
  refine Option.eq_none_iff_forall_ne_some.mpr fun v hv => ?_
  rw [← readRemote_eq_some_iff.mp hv] at h
  cases v <;> exact absurd h (by decide)

/-- R208: exactly the codes of the outbound default actions are read. -/
theorem readOutboundDefault_eq_some_iff {o : Octet} {v : OutboundDefault} :
    readOutboundDefault o = some v ↔ v.code = o := by
  constructor
  · unfold readOutboundDefault
    split_ifs with hq h7 <;> rintro ⟨⟩
    exacts [octet_toNat o, h7.symm]
  · rintro rfl
    cases v with
    | discard => rfl
    | forward q => fin_cases q <;> rfl

/-- R208: exactly the codes of the inbound default actions are read. -/
theorem readInboundDefault_eq_some_iff {o : Octet} {v : InboundDefault} :
    readInboundDefault o = some v ↔ v.code = o := by
  constructor
  · unfold readInboundDefault
    split_ifs with h0 h1 <;> rintro ⟨⟩
    exacts [h0.symm, h1.symm]
  · rintro rfl
    cases v <;> rfl

/-- R208: exactly the codes of the notice lines are read. -/
theorem readNoticeLine_eq_some_iff {o : Octet} {v : Option Line} :
    readNoticeLine o = some v ↔ noticeLineCode v = o := by
  constructor
  · unfold readNoticeLine
    split_ifs with h0 h1 h2 <;> rintro ⟨⟩
    exacts [h0.symm, h1.symm, h2.symm]
  · rintro rfl
    obtain _ | _ | _ := v <;> rfl

theorem toNat_octet {n : Nat} (h : n ≤ 255) : (octet n).toNat = n := by
  simp only [octet, BitVec.toNat_ofNat]
  omega

/-- R208: the number two octets hold, as the 16-bit field they are. -/
theorem ofNat_num16 (hi lo : Octet) : BitVec.ofNat 16 (num16 hi lo) = hi ++ lo := by
  apply BitVec.eq_of_toNat_eq
  rw [BitVec.toNat_append, ← Nat.shiftLeft_add_eq_or_of_lt lo.isLt]
  simp only [num16, BitVec.toNat_ofNat, Nat.shiftLeft_eq]
  omega

/-- R209: the number two octets hold is sent as those octets. -/
@[simp] theorem nat16_num16 (hi lo : Octet) : nat16 (num16 hi lo) = [hi, lo] := by
  rw [nat16, ofNat_num16, be16, BitVec.extractLsb'_append_eq_left, BitVec.extractLsb'_append_eq_right]

/-- R209: a number below 2¹⁶ is read back from its two octets. -/
theorem exists_nat16_eq {n : Nat} (h : n < 65536) : ∃ hi lo, nat16 n = [hi, lo] ∧ num16 hi lo = n := by
  refine ⟨_, _, rfl, ?_⟩
  simp only [num16, BitVec.extractLsb'_toNat, BitVec.toNat_ofNat, Nat.shiftRight_eq_div_pow]
  omega

/-! ### The settings record (R170, R172) -/

/-- R170, R172: the range check as a proposition. -/
theorem Settings.inRange_iff (t : Settings) :
    t.inRange = true ↔
      (16 ≤ t.maxFrameLength ∧ t.maxFrameLength ≤ 1023) ∧ t.reserve ≤ 128 ∧ t.lowWater ≤ 255 ∧
        (t.noticeStation ≠ 0x00 ∧ t.noticeStation ≠ 0xFF) ∧ t.noticeRepeat ≤ 255 ∧
        (1 ≤ t.grantTimeout ∧ t.grantTimeout ≤ 255) ∧ t.holdOff ≤ 255 ∧ t.retryLimit ≤ 7 ∧
        1 ≤ t.gapDelimiters ∧ t.gapDelimiters ≤ 16 := by
  simp [Settings.inRange, and_assoc]

/-- R172, R209: a record in range is read back from its octets. -/
theorem Settings.read_octets {t : Settings} (h : t.inRange = true) : Settings.read t.remote t.octets = some t := by
  obtain ⟨⟨-, hmax⟩, hre, hlw, -, hnr, ⟨-, hgt⟩, hho, hrl, -, hgd⟩ := t.inRange_iff.mp h
  obtain ⟨m1, m2, hoctets, hnum⟩ := exists_nat16_eq (n := t.maxFrameLength) (by omega)
  simp only [Settings.octets, hoctets, List.cons_append, List.nil_append, Settings.read,
    readOutboundDefault_eq_some_iff.mpr rfl, readInboundDefault_eq_some_iff.mpr rfl,
    readNoticeLine_eq_some_iff.mpr rfl, hnum, toNat_octet hlw, toNat_octet hnr, toNat_octet hgt, toNat_octet hho,
    toNat_octet (show t.reserve ≤ 255 by omega), toNat_octet (show t.retryLimit ≤ 255 by omega),
    toNat_octet (show t.gapDelimiters ≤ 255 by omega), h, if_true]

/-- R172, R209: a record read is in range, keeps the REMOTE value given and has the octets it was read from. -/
theorem Settings.of_read {remote : Remote} {ps : List Octet} {t : Settings} (h : Settings.read remote ps = some t) :
    t.inRange = true ∧ t.remote = remote ∧ t.octets = ps := by
  unfold Settings.read at h
  split at h
  case h_2 => cases h
  split at h
  case h_2 => cases h
  rename_i hod hib hnl
  obtain ⟨hrange, ht⟩ := Option.ite_none_right_eq_some.mp h
  obtain rfl := Option.some.inj ht
  refine ⟨hrange, rfl, ?_⟩
  simp [Settings.octets, readOutboundDefault_eq_some_iff.mp hod, readInboundDefault_eq_some_iff.mp hib,
    readNoticeLine_eq_some_iff.mp hnl]

/-- R172: octets that are not those of a record in range are not read. -/
theorem Settings.read_eq_none {remote : Remote} {ps : List Octet}
    (h : ∀ t : Settings, t.inRange = true → ps ≠ t.octets) : Settings.read remote ps = none := by
  refine Option.eq_none_iff_forall_ne_some.mpr fun t ht => ?_
  obtain ⟨hrange, -, hoctets⟩ := Settings.of_read ht
  exact h t hrange hoctets.symm

/-! ### The two executions (R172, R173) -/

section
variable {l : Line} {i : SlotIx} {x : Octet} {ps : List Octet} {s : State}

/-- R172: the octets of a record in range replace all fields but REMOTE. -/
theorem runWriteSettings_ok {n : Settings} (hlen : ps.length = 13) (hrange : n.inRange = true)
    (hremote : n.remote = s.settings.remote) (hps : ps = n.octets) :
    runWriteSettings l i ps s = carryOut (ps ++ [s.settings.remote.code]) { s with settings := n } := by
  have hread : Settings.read s.settings.remote ps = some n := by rw [hps, ← hremote, Settings.read_octets hrange]
  simp only [runWriteSettings, hlen, if_true, hread, Settings.record, hremote, ← hps]

/-- R172: any other thirteen octets change nothing. -/
theorem runWriteSettings_badValue (hlen : ps.length = 13) (h : ∀ n : Settings, n.inRange = true → ps ≠ n.octets) :
    runWriteSettings l i ps s = refuse .badValue s := by
  simp only [runWriteSettings, hlen, if_true, Settings.read_eq_none h]

/-- R173: the code of a REMOTE value. -/
theorem runSetRemoteAccess_ok {v : Remote} (hx : x = v.code) :
    runSetRemoteAccess l i [x] s =
      carryOut [x] { s with settings := { s.settings with remote := v } } := by
  subst hx
  simp only [runSetRemoteAccess, readRemote_eq_some_iff.mpr rfl]

/-- R173: any other octet. -/
theorem runSetRemoteAccess_badValue (hx : 2 < x.toNat) : runSetRemoteAccess l i [x] s = refuse .badValue s := by
  simp only [runSetRemoteAccess, readRemote_eq_none hx]

end

/-- Settles O27: both requests are ready, so they run; the reader of each takes exactly the octets of a value in
range. -/
theorem settingsAreWrittenWhole : Obligations.SettingsAreWrittenWhole := by
  intro l src seq x ps i s
  refine ⟨fun hready hlen => ⟨_, requestCommand_ready (run := runWriteSettings) hready,
      fun n hrange hremote hps => ?_, fun hbad => ?_⟩,
    fun hready => ⟨_, requestCommand_ready (run := runSetRemoteAccess) hready, fun v hx => ?_, fun hx => ?_⟩⟩
  · exact answered_of_run (runWriteSettings_ok hlen hrange hremote hps) rfl hready (absurd rfl)
  · exact answered_of_run (runWriteSettings_badValue hlen hbad) rfl hready fun _ => rfl
  · exact answered_of_run (runSetRemoteAccess_ok hx) rfl hready (absurd rfl)
  · exact answered_of_run (runSetRemoteAccess_badValue hx) rfl hready fun _ => rfl

end Sys2Proof.Machine
end

section
/-! SUPPORT. READ COUNTERS (R187, R205), ACK EVENTS and WRITE EVENT MASK (R186, R200, R202): the counters named as the
list the response carries, what a clear leaves, what each execution answers; and the statements settled from them. -/

namespace Sys2Proof.Machine

/-! ### The counters named (R204, R205) -/

/-- R209: a counter group is read back from its octet. -/
theorem readGroup_octet (grp : Fin 5) : readGroup (octet grp.val) = some grp := by
  simp only [readGroup, toNat_octet (show grp.val ≤ 255 by omega), grp.isLt, dif_pos]

theorem readGroup_eq_none {g : Octet} (h : 4 < g.toNat) : readGroup g = none := dif_neg (by omega)

/-- R204: every group lies within the bank. -/
theorem groupBase_add_groupSize_le (grp : Fin 5) : groupBase grp + groupSize grp ≤ 121 := by
  revert grp
  decide

/-- A stretch of a list, read position by position. -/
theorem take_drop_eq_map_getD {α : Type} {xs : List α} {lo n : Nat} (x : α) (h : lo + n ≤ xs.length) :
    (xs.drop lo).take n = (List.range n).map fun k => xs.getD (lo + k) x := by
  refine List.ext_getElem (by simp; omega) fun k hk _ => ?_
  have hlt : lo + k < xs.length := by simp at hk; omega
  simp [List.getElem?_eq_getElem hlt]

/-- R205: the values reported, counter by counter. -/
theorem State.counterOctets_eq (s : State) {lo n : Nat} (h : lo + n ≤ 121) :
    s.counterOctets lo n = (List.range n).flatMap fun k => be32 (s.counters.toList.getD (lo + k) 0) := by
  rw [counterOctets, take_drop_eq_map_getD 0 (by simpa using h), List.map_map, List.flatMap_def]
  rfl

/-- R205: with the clear flag the counters named are 0, and no other counter changes. -/
theorem clearCounters_eq (flag : Octet) (lo n : Nat) (s : State) :
    clearCounters (decide (flag = 1)) lo n s =
      { s with counters := tabulate 121 fun k =>
          if flag = 1 ∧ lo ≤ k.val ∧ k.val < lo + n then 0 else s.counters[k] } := by
  have hcounters : (if decide (flag = 1) = true then zeroRange lo n s.counters else s.counters) =
      tabulate 121 fun k => if flag = 1 ∧ lo ≤ k.val ∧ k.val < lo + n then 0 else s.counters[k] := by
    refine table_ext fun k => ?_
    by_cases hflag : flag = 1
    · simp only [hflag, decide_true, if_true, zeroRange, mapTable_get_fin, tabulate_get_fin, true_and]
    · simp only [hflag, decide_false, Bool.false_eq_true, if_false, tabulate_get_fin, false_and]
  rw [clearCounters, hcounters]

/-! ### READ COUNTERS (R187, R205) -/

section
variable {l : Line} {i : SlotIx} {g first count flag : Octet} {grp : Fin 5} {s : State}

/-- R187, the group. -/
theorem runReadCounters_badGroup (hg : 4 < g.toNat) :
    runReadCounters l i [g, first, count, flag] s = refuse .badIndex s := by
  simp only [runReadCounters, readGroup_eq_none hg]

/-- R187, the first index and its sum with the count. -/
theorem runReadCounters_badIndex
    (h : groupSize grp ≤ first.toNat ∨ groupSize grp < first.toNat + count.toNat) :
    runReadCounters l i [octet grp.val, first, count, flag] s = refuse .badIndex s := by
  have hrange : ¬(first.toNat < groupSize grp ∧ first.toNat + count.toNat ≤ groupSize grp) := by omega
  simp only [runReadCounters, readGroup_octet, if_neg hrange]

/-- R187, the count and the clear flag, once the group and the indices are in range. -/
theorem runReadCounters_badValue (hfirst : first.toNat < groupSize grp)
    (hsum : first.toNat + count.toNat ≤ groupSize grp)
    (hbad : count = 0 ∨ 48 < count.toNat ∨ 1 < flag.toNat) :
    runReadCounters l i [octet grp.val, first, count, flag] s = refuse .badValue s := by
  rcases lt_or_ge 1 flag.toNat with hflag | hflag
  · simp only [runReadCounters, readGroup_octet, hfirst, hsum, and_self, if_true, readYesNo_eq_none hflag]
  · have hcount : ¬(1 ≤ count.toNat ∧ count.toNat ≤ 48) := by bv_omega
    simp only [runReadCounters, readGroup_octet, hfirst, hsum, and_self, if_true, readYesNo_eq_some hflag,
      if_neg hcount]

/-- R205: every check passed. -/
theorem runReadCounters_ok (hfirst : first.toNat < groupSize grp)
    (hsum : first.toNat + count.toNat ≤ groupSize grp) (hzero : count ≠ 0) (hmax : count.toNat ≤ 48)
    (hflag : flag.toNat ≤ 1) :
    runReadCounters l i [octet grp.val, first, count, flag] s =
      carryOut
        ([octet grp.val, first, count] ++ (List.range count.toNat).flatMap fun k =>
          be32 (s.counters.toList.getD (groupBase grp + first.toNat + k) 0))
        { s with counters := tabulate 121 fun k =>
            if flag = 1 ∧ groupBase grp + first.toNat ≤ k.val ∧
              k.val < groupBase grp + first.toNat + count.toNat then 0 else s.counters[k] } := by
  have hcount : 1 ≤ count.toNat ∧ count.toNat ≤ 48 := ⟨by bv_omega, hmax⟩
  have hbank := groupBase_add_groupSize_le grp
  rw [← clearCounters_eq, ← s.counterOctets_eq (by omega)]
  simp only [runReadCounters, readGroup_octet, hfirst, hsum, and_self, if_true, readYesNo_eq_some hflag, if_pos hcount]

end

/-- Settles O26: the request is ready, so it runs, and each outcome of the checks, in their order, gives its answer. -/
theorem readCountersReportsAndClears : Obligations.ReadCountersReportsAndClears := by
  intro l src seq g first count flag i s hready
  refine ⟨_, requestCommand_ready (run := runReadCounters) hready, fun hg => ?_, ?_⟩
  · exact answered_of_run (runReadCounters_badGroup hg) rfl hready fun _ => rfl
  rintro grp rfl
  refine ⟨fun hindex => ?_, fun hfirst hsum => ⟨fun hbad => ?_, fun hzero hmax hflag => ?_⟩⟩
  · exact answered_of_run (runReadCounters_badIndex hindex) rfl hready fun _ => rfl
  · exact answered_of_run (runReadCounters_badValue hfirst hsum hbad) rfl hready fun _ => rfl
  · exact answered_of_run (runReadCounters_ok hfirst hsum hzero hmax hflag) rfl hready (absurd rfl)

/-! ### The event unit's two requests (R200, R202) -/

/-- R208: the word two octets hold is sent as those octets. -/
theorem be16_word16 (hi lo : Octet) : be16 (word16 hi lo) = [hi, lo] := by
  rw [word16, be16, BitVec.extractLsb'_append_eq_left, BitVec.extractLsb'_append_eq_right]

/-- R185: the event states reported, by event number. -/
theorem EventUnit.stateOctets_eq (u : EventUnit) :
    u.stateOctets = (List.finRange 16).map fun n => u.states[n].code := by
  refine List.ext_getElem (by simp [stateOctets]) fun n _ _ => ?_
  simp [stateOctets]

/-- R200: a named event that is PENDING_REPORTED becomes CLEAR, and every other event keeps its state. -/
theorem acknowledge_states (setting : Nat) (set : Word16) (u : EventUnit) (n : Fin 16) :
    (u.acknowledge setting set).states[n] =
      if set.getLsbD n.val = true ∧ u.states[n] = .reported then .clear else u.states[n] := by
  simp only [EventUnit.acknowledge, evaluate_states, mapTable_get_fin, Bool.and_eq_true, beq_iff_eq]

@[simp] theorem acknowledge_mask (setting : Nat) (set : Word16) (u : EventUnit) :
    (u.acknowledge setting set).mask = u.mask := evaluate_mask ..

/-- R200: an acknowledgement evaluates the notice unit. -/
theorem acknowledge_evaluated (setting : Nat) (set : Word16) (u : EventUnit) :
    Evaluated setting u (u.acknowledge setting set) := evaluate_evaluated _ _ _ rfl

@[simp] theorem writeMask_mask (setting : Nat) (mask : Word16) (u : EventUnit) :
    (u.writeMask setting mask).mask = mask := evaluate_mask ..

@[simp] theorem writeMask_states (setting : Nat) (mask : Word16) (u : EventUnit) :
    (u.writeMask setting mask).states = u.states := evaluate_states ..

/-- R202: a mask write evaluates the notice unit. -/
theorem writeMask_evaluated (setting : Nat) (mask : Word16) (u : EventUnit) :
    Evaluated setting u (u.writeMask setting mask) := evaluate_evaluated _ _ _ rfl

section
variable {l : Line} {i : SlotIx} {hi lo : Octet} {s : State}

/-- R186: ACK EVENTS has nothing to check, and reports the event states and the notice state it leaves. -/
theorem runAckEvents_ok :
    runAckEvents l i [hi, lo] s =
      carryOut
        ((List.finRange 16).map (fun n => (ackEvents (hi ++ lo) s).events.states[n].code) ++
          [(ackEvents (hi ++ lo) s).events.notice.state.code])
        (ackEvents (hi ++ lo) s) := by
  rw [runAckEvents, EventUnit.stateOctets_eq, word16]

/-- R186: WRITE EVENT MASK has nothing to check, and reports the mask and the notice state it leaves. -/
theorem runWriteEventMask_ok :
    runWriteEventMask l i [hi, lo] s =
      carryOut [hi, lo, (writeEventMask (hi ++ lo) s).events.notice.state.code] (writeEventMask (hi ++ lo) s) := by
  rw [runWriteEventMask, be16_word16, word16]
  rfl

end

/-- Settles O35: both requests are ready and have nothing to check, so they run; the event unit's own lemmas say what
each leaves. -/
theorem acknowledgeAndMask : Obligations.AcknowledgeAndMask := by
  intro l src seq hi lo i s
  refine ⟨fun hready => ?_, fun hready => ?_⟩
  · exact ⟨_, ackEvents (hi ++ lo) s, requestCommand_ready (run := runAckEvents) hready,
      answered_of_run runAckEvents_ok rfl hready (absurd rfl), rfl, acknowledge_mask ..,
      acknowledge_states _ _ s.events, acknowledge_evaluated ..⟩
  · exact ⟨_, writeEventMask (hi ++ lo) s, requestCommand_ready (run := runWriteEventMask) hready,
      answered_of_run runWriteEventMask_ok rfl hready (absurd rfl), rfl, writeMask_mask ..,
      writeMask_states .., writeMask_evaluated ..⟩

end Sys2Proof.Machine
end

section
/-! SUPPORT. Rule entries and window entries (R91, R177, R23, R183, R208, R209): the range checks as propositions, each field's
reader the inverse of its octets; and the round trips settled from them. -/

namespace Sys2Proof.Machine

/-- Settles O16: the two directions are those of the settings reader. -/
theorem settingsOctetsRoundTrip : Obligations.SettingsOctetsRoundTrip :=
  ⟨fun _ h => Settings.read_octets h, fun _ _ _ h => Settings.of_read h⟩

/-! ### Fields of both entries (R208) -/

/-- R208: the top bit of an octet, alone. -/
theorem flagBit_topBit (o : Octet) : flagBit 0x80 (o.getLsbD 7) = o &&& 0x80 := by
  refine BitVec.eq_of_getLsbD_eq fun i hi => ?_
  cases h : o.getLsbD 7 <;> interval_cases i <;> simp_all [flagBit]

/-- R209: the number three octets hold is sent as those octets. -/
@[simp] theorem nat24_num24 (a b c : Octet) : nat24 (num24 a b c) = [a, b, c] := by
  have ha := a.isLt
  have hb := b.isLt
  have hc := c.isLt
  simp only [nat24, num24, octet, List.cons.injEq, and_true]
  refine ⟨?_, ?_, ?_⟩ <;> apply BitVec.eq_of_toNat_eq <;> simp only [BitVec.toNat_ofNat] <;> omega

/-- R209: a number below 2²⁴ is read back from its three octets. -/
theorem num24_nat24 {n : Nat} (h : n < 16777216) :
    num24 (octet (n / 65536)) (octet (n / 256)) (octet n) = n := by
  simp only [num24, octet, BitVec.toNat_ofNat]
  omega

/-- R208: the number of two octets is below 2¹⁶. -/
theorem num16_lt (hi lo : Octet) : num16 hi lo < 65536 := by
  have := hi.isLt
  have := lo.isLt
  simp only [num16]
  omega

/-! ### Rule entries (R91, R177, R209) -/

/-- R208: exactly the codes of the directions are read. -/
theorem readDirection_eq_some_iff {o : Octet} {v : Direction} : readDirection o = some v ↔ v.code = o := by
  constructor
  · unfold readDirection
    split_ifs with h1 h2 h3 <;> rintro ⟨⟩
    exacts [h1.symm, h2.symm, h3.symm]
  · rintro rfl
    cases v <;> rfl

/-- R208: exactly the codes of the actions are read. -/
theorem readAction_eq_some_iff {o : Octet} {v : RuleAction} : readAction o = some v ↔ v.code = o := by
  constructor
  · unfold readAction
    split_ifs with h0 h1 <;> rintro ⟨⟩
    exacts [h0.symm, h1.symm]
  · rintro rfl
    cases v <;> rfl

/-- R177: exactly the octets of the queues a rule can name are read. -/
theorem readOutQueue_eq_some_iff {o : Octet} {q : Fin 7} : readOutQueue o = some q ↔ octet q.val = o := by
  constructor
  · unfold readOutQueue
    split_ifs with hq <;> rintro ⟨⟩
    exact octet_toNat o
  · rintro rfl
    simp only [readOutQueue, toNat_octet (show q.val ≤ 255 by omega), q.isLt, dif_pos]

/-- R91: the probe of a stored entry, as it is read. -/
theorem readProbe_some {p : Probe} (h : p.offset ≤ 31) :
    readProbe true (octet p.offset) p.value p.mask = some (some p) := by
  simp [readProbe, toNat_octet (show p.offset ≤ 255 by omega), h]

/-- R177: a probe that is read is within the table, and its octets are those read, or 0 where it is absent. -/
theorem of_readProbe {present : Bool} {o v m : Octet} {p : Option Probe} (h : readProbe present o v m = some p) :
    p.all (fun p => p.offset ≤ 31) = true ∧ p.isSome = present ∧
      probeOctets p = if present then [o, v, m] else [0, 0, 0] := by
  cases present with
  | false =>
    obtain rfl : none = p := Option.some.inj h
    exact ⟨rfl, rfl, rfl⟩
  | true =>
    obtain ⟨ho, hp⟩ := Option.ite_none_right_eq_some.mp h
    obtain rfl := Option.some.inj hp
    exact ⟨by simpa using ho, rfl, by simp [probeOctets]⟩

/-- R91: the length range of a stored entry, as it is read. -/
theorem readLengths_some {r : LengthRange} (hlo : 3 ≤ r.minimum) (hhi : r.maximum ≤ 1023)
    (h : r.minimum ≤ r.maximum) : readLengths true r.minimum r.maximum = some (some r) := by
  have hall : 3 ≤ r.minimum ∧ r.minimum ≤ 1023 ∧ 3 ≤ r.maximum ∧ r.maximum ≤ 1023 ∧ r.minimum ≤ r.maximum := by omega
  simp [readLengths, hall]

/-- R177: a length range that is read is within the table, and its octets are those read, or 0 where it is absent. -/
theorem of_readLengths {present : Bool} {l1 l2 h1 h2 : Octet} {r : Option LengthRange}
    (h : readLengths present (num16 l1 l2) (num16 h1 h2) = some r) :
    r.all (fun r => 3 ≤ r.minimum && r.maximum ≤ 1023 && r.minimum ≤ r.maximum) = true ∧ r.isSome = present ∧
      lengthsOctets r = if present then [l1, l2, h1, h2] else [0, 0, 0, 0] := by
  cases present with
  | false =>
    obtain rfl : none = r := Option.some.inj h
    exact ⟨rfl, rfl, rfl⟩
  | true =>
    obtain ⟨hr, hv⟩ := Option.ite_none_right_eq_some.mp h
    obtain rfl := Option.some.inj hv
    simp only [Bool.and_eq_true, decide_eq_true_eq] at hr
    exact ⟨by simp [hr], rfl, by simp [lengthsOctets]⟩

/-- R91: the range check of an entry as a proposition. -/
theorem RuleEntry.inRange_iff (e : RuleEntry) :
    e.inRange = true ↔ (∀ p, e.probe = some p → p.offset ≤ 31) ∧
      ∀ r, e.lengths = some r → 3 ≤ r.minimum ∧ r.maximum ≤ 1023 ∧ r.minimum ≤ r.maximum := by
  cases hp : e.probe <;> cases hr : e.lengths <;> simp [inRange, hp, hr, and_assoc]

/-- R208: the flag octet of an entry holds each of its four flags. -/
theorem ruleFlags_bits (v t p r : Bool) :
    let fl : Octet := flagBit 0x80 v ||| flagBit 0x40 t ||| flagBit 0x20 p ||| flagBit 0x10 r
    fl.getLsbD 7 = v ∧ fl.getLsbD 6 = t ∧ fl.getLsbD 5 = p ∧ fl.getLsbD 4 = r := by
  revert v t p r
  decide

/-- R208: the four flags of an octet make its upper four bits. -/
theorem ruleFlags_of_bits (fl : Octet) :
    flagBit 0x80 (fl.getLsbD 7) ||| flagBit 0x40 (fl.getLsbD 6) ||| flagBit 0x20 (fl.getLsbD 5) |||
      flagBit 0x10 (fl.getLsbD 4) = fl &&& 0xF0 := by
  have hbit : ∀ (w : Octet) (b : Bool) (i : Nat), (flagBit w b).getLsbD i = (b && w.getLsbD i) := by
    intro w b i
    cases b <;> simp [flagBit]
  refine BitVec.eq_of_getLsbD_eq fun i hi => ?_
  simp only [BitVec.getLsbD_or, BitVec.getLsbD_and, hbit]
  interval_cases i <;> simp

/-- R209: an entry within the table is read back from its octets. -/
theorem RuleEntry.read_octets {e : RuleEntry} (h : e.inRange = true) : RuleEntry.read e.octets = some e := by
  obtain ⟨hprobe, hlengths⟩ := e.inRange_iff.mp h
  obtain ⟨valid, last, direction, destination, source, kind, probe, lengths, action, queue⟩ := e
  obtain ⟨po, pv, pm, hpo, hp⟩ : ∃ po pv pm, probeOctets probe = [po, pv, pm] ∧
      readProbe probe.isSome po pv pm = some probe := by
    cases probe with
    | none => exact ⟨0, 0, 0, rfl, rfl⟩
    | some p => exact ⟨_, _, _, rfl, readProbe_some (hprobe p rfl)⟩
  obtain ⟨l1, l2, h1, h2, hro, hr⟩ : ∃ l1 l2 h1 h2, lengthsOctets lengths = [l1, l2, h1, h2] ∧
      readLengths lengths.isSome (num16 l1 l2) (num16 h1 h2) = some lengths := by
    cases lengths with
    | none => exact ⟨0, 0, 0, 0, rfl, rfl⟩
    | some r =>
      obtain ⟨hlo, hhi, hle⟩ := hlengths r rfl
      obtain ⟨l1, l2, hl, hln⟩ := exists_nat16_eq (n := r.minimum) (by omega)
      obtain ⟨h1, h2, hh, hhn⟩ := exists_nat16_eq (n := r.maximum) (by omega)
      exact ⟨l1, l2, h1, h2, by simp [lengthsOctets, hl, hh], by rw [hln, hhn]; exact readLengths_some hlo hhi hle⟩
  obtain ⟨hv, ht, hpf, hrf⟩ := ruleFlags_bits valid last probe.isSome lengths.isSome
  simp only [RuleEntry.octets, hpo, hro, List.cons_append, List.nil_append, RuleEntry.read, hv, ht, hpf, hrf, hp, hr,
    readDirection_eq_some_iff.mpr rfl, readAction_eq_some_iff.mpr rfl, readOutQueue_eq_some_iff.mpr rfl]

/-- R177, R209: an entry that is read is within the table, and its octets are those read but for reserved bits and
absent parts. -/
theorem RuleEntry.of_read {fl di ac qu dv dm sv sm kv km po pv pm l1 l2 h1 h2 : Octet} {e : RuleEntry}
    (h : RuleEntry.read [fl, di, ac, qu, dv, dm, sv, sm, kv, km, po, pv, pm, l1, l2, h1, h2] = some e) :
    e.inRange = true ∧
      e.octets = [fl &&& 0xF0, di, ac, qu, dv, dm, sv, sm, kv, km] ++
        (if fl.getLsbD 5 then [po, pv, pm] else [0, 0, 0]) ++
        (if fl.getLsbD 4 then [l1, l2, h1, h2] else [0, 0, 0, 0]) := by
  simp only [RuleEntry.read] at h
  split at h
  case h_2 => cases h
  rename_i d a q p r hd ha hq hp hr
  obtain rfl := Option.some.inj h
  obtain ⟨hpin, hps, hpo⟩ := of_readProbe hp
  obtain ⟨hrin, hrs, hro⟩ := of_readLengths hr
  refine ⟨by simp only [RuleEntry.inRange, hpin, hrin, Bool.and_self], ?_⟩
  simp only [RuleEntry.octets, hps, hrs, hpo, hro, ruleFlags_of_bits, readDirection_eq_some_iff.mp hd,
    readAction_eq_some_iff.mp ha, readOutQueue_eq_some_iff.mp hq]

/-- Settles O17: the two directions are those of the entry reader. -/
theorem ruleEntryOctetsRoundTrip : Obligations.RuleEntryOctetsRoundTrip := by
  refine ⟨fun e h => RuleEntry.read_octets h, ?_⟩
  intro fl di ac qu dv dm sv sm kv km po pv pm l1 l2 h1 h2 e h
  exact RuleEntry.of_read h

/-! ### Window entries (R23, R183, R209) -/

/-- R183: an hour within the table, or ANY, is read back from its octet. -/
theorem readHour_orAny {h : Option Nat} (hh : ∀ n, h = some n → n ≤ 23) : readHour (orAny h) = some h := by
  cases h with
  | none => rfl
  | some n =>
    have hn := hh n rfl
    interval_cases n <;> rfl

/-- R183: a day within the table, or ANY, is read back from its octet. -/
theorem readDay_orAny {d : Option Nat} (hd : ∀ n, d = some n → 1 ≤ n ∧ n ≤ 31) : readDay (orAny d) = some d := by
  cases d with
  | none => rfl
  | some n =>
    obtain ⟨hlo, hhi⟩ := hd n rfl
    interval_cases n <;> rfl

/-- R208: seven bits as an octet have no top bit and are its lower bits. -/
theorem setWidth_lowBits (x : BitVec 7) : (x.setWidth 8).getLsbD 7 = false ∧ (x.setWidth 8).extractLsb' 0 7 = x := by
  refine ⟨by simp, BitVec.eq_of_getLsbD_eq fun i hi => ?_⟩
  interval_cases i <;> simp

/-- R183: a weekday set that is not empty, or ANY, is read back from its octet. -/
theorem readWeekdays_octet {w : Option (BitVec 7)} (hw : ∀ x, w = some x → x ≠ 0) :
    readWeekdays (weekdaysOctet w) = some w := by
  cases w with
  | none => rfl
  | some x =>
    obtain ⟨htop, hlow⟩ := setWidth_lowBits x
    simp only [weekdaysOctet, readWeekdays, htop, hlow, if_neg (hw x rfl), Bool.false_eq_true, if_false]

/-- R183: an hour that is read is within the table, and its octet is the one read. -/
theorem of_readHour {o : Octet} {h : Option Nat} (hr : readHour o = some h) :
    h.all (· ≤ 23) = true ∧ orAny h = o := by
  unfold readHour at hr
  split_ifs at hr with hany hle <;> obtain rfl := Option.some.inj hr
  · exact ⟨rfl, hany.symm⟩
  · exact ⟨by simpa using hle, octet_toNat o⟩

/-- R183: a day that is read is within the table, and its octet is the one read. -/
theorem of_readDay {o : Octet} {d : Option Nat} (hr : readDay o = some d) :
    d.all (fun d => 1 ≤ d && d ≤ 31) = true ∧ orAny d = o := by
  unfold readDay at hr
  split_ifs at hr with hany hle <;> obtain rfl := Option.some.inj hr
  · exact ⟨rfl, hany.symm⟩
  · exact ⟨by simpa using hle, octet_toNat o⟩

/-- R208: an octet without its top bit is its lower seven bits. -/
theorem lowBits_setWidth {o : Octet} (h : o.getLsbD 7 = false) : (o.extractLsb' 0 7).setWidth 8 = o := by
  refine BitVec.eq_of_getLsbD_eq fun i hi => ?_
  interval_cases i <;> simp_all

/-- R183, R209: a weekday set that is read is not empty, and its octet is the one read, or that of ANY. -/
theorem of_readWeekdays {o : Octet} {w : Option (BitVec 7)} (hr : readWeekdays o = some w) :
    w.all (· != 0) = true ∧ weekdaysOctet w = if o.getLsbD 7 then 0x80 else o := by
  unfold readWeekdays at hr
  split_ifs at hr with hany hzero <;> obtain rfl := Option.some.inj hr
  · exact ⟨rfl, (if_pos hany).symm⟩
  · exact ⟨by simpa using hzero, by rw [if_neg hany]; exact lowBits_setWidth (Bool.eq_false_iff.mpr hany)⟩

/-- R23: the range check of an entry as a proposition. -/
theorem WindowEntry.inRange_iff (e : WindowEntry) :
    e.inRange = true ↔
      e.minute ≤ 59 ∧ (∀ n, e.hour = some n → n ≤ 23) ∧ (∀ x, e.weekdays = some x → x ≠ 0) ∧
        (∀ n, e.day = some n → 1 ≤ n ∧ n ≤ 31) ∧ (1 ≤ e.duration ∧ e.duration ≤ 1439) ∧ e.budget ≤ 0xFFFFFF ∧
        e.queueSet &&& 0x81 = 0 ∧ e.queueSet ≠ 0 := by
  cases hh : e.hour <;> cases hw : e.weekdays <;> cases hd : e.day <;> simp [inRange, hh, hw, hd, and_assoc]

/-- R23: a queue set without reserved bits is not changed by the mask. -/
theorem queueSet_mask {o : Octet} (h : o &&& 0x81 = 0) : o &&& 0x7E = o := by
  have hbit : ∀ i, (o &&& 0x81).getLsbD i = false := by
    intro i
    rw [h]
    exact BitVec.getLsbD_zero
  have h0 := hbit 0
  have h7 := hbit 7
  simp at h0 h7
  refine BitVec.eq_of_getLsbD_eq fun i hi => ?_
  interval_cases i <;> simp [h0, h7]

/-- R209: a queue set is stored without its reserved bits. -/
theorem queueSet_masked (o : Octet) : o &&& 0x7E &&& 0x81 = 0 := by
  rw [BitVec.and_assoc]
  exact BitVec.and_zero

/-- R209: an entry within the table is read back from its octets. -/
theorem WindowEntry.read_octets {e : WindowEntry} (h : e.inRange = true) : WindowEntry.read e.octets = some e := by
  obtain ⟨hmin, hhour, hweek, hday, ⟨hd1, hd2⟩, hbudget, hset, hset0⟩ := e.inRange_iff.mp h
  obtain ⟨d1, d2, hdo, hdn⟩ := exists_nat16_eq (n := e.duration) (by omega)
  have hflag : (flagBit 0x80 e.enabled).getLsbD 7 = e.enabled := by cases e.enabled <;> rfl
  have hmask := queueSet_mask hset
  simp only [WindowEntry.octets, hdo, nat24, List.cons_append, List.nil_append, WindowEntry.read, readHour_orAny hhour,
    readWeekdays_octet hweek, readDay_orAny hday, toNat_octet (show e.minute ≤ 255 by omega), hdn, hmask, hflag,
    num24_nat24 (show e.budget < 16777216 by omega), hmin, hd1, hd2, bne_iff_ne.mpr hset0, decide_true, Bool.and_self,
    if_true]

/-- R183, R209: an entry that is read is within the table, and its octets are those read but for reserved bits. -/
theorem WindowEntry.of_read {en mi ho wd da d1 d2 b1 b2 b3 qs : Octet} {e : WindowEntry}
    (h : WindowEntry.read [en, mi, ho, wd, da, d1, d2, b1, b2, b3, qs] = some e) :
    e.inRange = true ∧
      e.octets = [en &&& 0x80, mi, ho, if wd.getLsbD 7 then 0x80 else wd, da, d1, d2, b1, b2, b3, qs &&& 0x7E] := by
  simp only [WindowEntry.read] at h
  split at h
  case h_2 => cases h
  rename_i hour week day hho hwd hda
  obtain ⟨hcheck, he⟩ := Option.ite_none_right_eq_some.mp h
  obtain rfl := Option.some.inj he
  obtain ⟨hhour, hhoct⟩ := of_readHour hho
  obtain ⟨hweek, hwoct⟩ := of_readWeekdays hwd
  obtain ⟨hday, hdoct⟩ := of_readDay hda
  have hbudget : num24 b1 b2 b3 ≤ 16777215 := by
    have h1 := b1.isLt
    have h2 := b2.isLt
    have h3 := b3.isLt
    simp only [num24]
    omega
  simp only [Bool.and_eq_true, decide_eq_true_eq] at hcheck
  obtain ⟨⟨⟨hmin, hlo⟩, hhi⟩, hset0⟩ := hcheck
  refine ⟨?_, ?_⟩
  · simp only [WindowEntry.inRange, hmin, hhour, hweek, hday, hlo, hhi, hbudget, queueSet_masked, hset0, decide_true, beq_self_eq_true,
      Bool.and_self]
  · simp only [WindowEntry.octets, flagBit_topBit, octet_toNat, hhoct, hwoct, hdoct, nat16_num16, nat24_num24,
      List.cons_append, List.nil_append]

/-- Settles O18: the two directions are those of the entry reader. -/
theorem windowEntryOctetsRoundTrip : Obligations.WindowEntryOctetsRoundTrip := by
  refine ⟨fun e h => WindowEntry.read_octets h, ?_⟩
  intro en mi ho wd da d1 d2 b1 b2 b3 qs e h
  exact WindowEntry.of_read h

end Sys2Proof.Machine
end

section
/-! SUPPORT. Gates, eligibility, sponsors and the sources of the selectors (R30, R31, R33, R65, R84) as propositions; and the
statement settled from them. -/

namespace Sys2Proof.Machine

theorem isScheduled_iff (q : QueueIx) : isScheduled q = true ↔ 1 ≤ q.val ∧ q.val ≤ 6 := by simp [isScheduled]

/-! ### Gates and sponsors (R30, R33) -/

/-- Some element of a table passes a test. -/
theorem table_any_iff {α : Type} {n : Nat} (v : Vector α n) (p : α → Bool) :
    v.toList.any p = true ↔ ∃ i : Fin n, p v[i] = true := by
  simp only [List.any_eq_true, Vector.mem_toList_iff, Vector.mem_iff_getElem]
  constructor
  · rintro ⟨x, ⟨i, hi, rfl⟩, hp⟩
    exact ⟨⟨i, hi⟩, hp⟩
  · rintro ⟨i, hp⟩
    exact ⟨_, ⟨i.val, i.isLt, rfl⟩, hp⟩

/-- R30: a window opens the gate of a scheduled queue while it is OPEN and lists it. -/
theorem Window.opensFor_iff (w : Window) (q : QueueIx) :
    w.opensFor q = true ↔ isScheduled q = true ∧ w.state.phase = .opened ∧ w.entry.queueSet.getLsbD q.val = true := by
  simp only [opensFor, WindowEntry.serves, Bool.and_eq_true, beq_iff_eq]
  tauto

/-- R30: the gate of a scheduled queue. -/
theorem State.gateOpen_iff (s : State) (q : QueueIx) :
    s.gateOpen q = true ↔
      (s.tk.timeValid = true ∧ ∃ w : WindowIx, s.windows[w].opensFor q = true) ∨
        (s.tk.timeValid = false ∧ (s.queue q).fallback = .release) := by
  cases h : s.tk.timeValid with
  | true => simp only [gateOpen, h, if_true, table_any_iff]; simp
  | false => simp [gateOpen, h]

/-- R31: a queue is eligible. -/
theorem State.eligible_iff (s : State) (q : QueueIx) :
    s.eligible q = true ↔
      (s.queue q).frozen = false ∧ (s.queue q).frames ≠ [] ∧
        (isScheduled q = false ∨ 0 < (s.queue q).mark ∨ s.gateOpen q = true) := by
  simp [eligible, and_assoc, or_assoc]

/-- R33: the lowest-numbered window that opens the gate. -/
theorem State.openWindowFor_eq_some {s : State} {q : QueueIx} {w : WindowIx} (hw : s.windows[w].opensFor q = true)
    (hfirst : ∀ v < w, s.windows[v].opensFor q = false) :
    s.openWindowFor q = some { window := w, opening := s.windows[w].state.opening } := by
  rw [openWindowFor, find_finRange _ w hw hfirst]
  rfl

/-- R33: no window opens the gate. -/
theorem State.openWindowFor_eq_none {s : State} {q : QueueIx} (h : ∀ w : WindowIx, s.windows[w].opensFor q = false) :
    s.openWindowFor q = none := by
  have hfind : (List.finRange 24).find? (fun i => s.windows[i].opensFor q) = none := by
    simpa [List.find?_eq_none] using h
  rw [openWindowFor, hfind]
  rfl

/-! ### Sources (R65, R84) -/

/-- R65: the QUEUED slot that stands first in the order. -/
theorem LineAgent.nextQueued_eq_some_iff (g : LineAgent) (i : SlotIx) :
    g.nextQueued = some i ↔
      ∃ before after, g.order = before ++ i :: after ∧ g.slots[i].state = .queued ∧
        ∀ j ∈ before, g.slots[j].state ≠ .queued := by
  rw [nextQueued, List.find?_eq_some_iff_append]
  simp only [beq_iff_eq, Bool.not_eq_true', beq_eq_false_iff_ne]
  constructor
  · rintro ⟨hi, before, after, horder, hbefore⟩
    exact ⟨before, after, horder, hi, hbefore⟩
  · rintro ⟨before, after, horder, hi, hbefore⟩
    exact ⟨hi, before, after, horder, hbefore⟩

theorem LineAgent.nextQueued_eq_none_iff (g : LineAgent) :
    g.nextQueued = none ↔ ∀ i ∈ g.order, g.slots[i].state ≠ .queued := by
  simp [nextQueued, List.find?_eq_none]

theorem LineAgent.queued_of_nextQueued {g : LineAgent} {i : SlotIx} (h : g.nextQueued = some i) :
    g.slots[i].state = .queued := by
  simpa using List.find?_some h

/-- R31: the head of an eligible queue. -/
theorem State.eligibleHead_eq_some_iff (s : State) (p : QueueIx) (src : Source) :
    s.eligibleHead p = some src ↔ s.eligible p = true ∧ ∃ h, (s.queue p).frames.head? = some h ∧ src = .queue p h := by
  rw [eligibleHead, Option.ite_none_right_eq_some, Option.map_eq_some_iff]
  simp only [eq_comm (a := src)]

/-- R31: a queue that is not eligible has no head to take, and every other has one. -/
theorem State.eligibleHead_eq_none_iff (s : State) (p : QueueIx) : s.eligibleHead p = none ↔ s.eligible p = false := by
  cases he : s.eligible p with
  | false => simp [eligibleHead, he]
  | true =>
    have hne := ((s.eligible_iff p).mp he).2.1
    simp [eligibleHead, he, hne]

/-- A search through an ascending list answers at the first place that gives something. -/
theorem findSome_ascending {β : Type} {l : List QueueIx} (f : QueueIx → Option β) (b : β)
    (hl : l.Pairwise (· < ·)) :
    l.findSome? f = some b ↔ ∃ q ∈ l, f q = some b ∧ ∀ p ∈ l, p < q → f p = none := by
  induction l with
  | nil => simp
  | cons a l ih =>
    obtain ⟨ha, hl⟩ := List.pairwise_cons.mp hl
    rw [List.findSome?_cons]
    cases hf : f a with
    | some c =>
      constructor
      · rintro ⟨⟩
        refine ⟨a, List.mem_cons_self, hf, fun p hp hpa => ?_⟩
        rcases List.mem_cons.mp hp with rfl | hp
        · exact absurd hpa (lt_irrefl _)
        · exact absurd hpa (lt_asymm (ha p hp))
      · rintro ⟨q, hq, hfq, hbefore⟩
        rcases List.mem_cons.mp hq with rfl | hq
        · exact hf.symm.trans hfq
        · exact absurd (hbefore a List.mem_cons_self (ha q hq)) (by simp [hf])
    | none =>
      simp only [ih hl, List.mem_cons]
      constructor
      · rintro ⟨q, hq, hfq, hbefore⟩
        refine ⟨q, .inr hq, hfq, ?_⟩
        rintro p (rfl | hp) hpq
        · exact hf
        · exact hbefore p hp hpq
      · rintro ⟨q, rfl | hq, hfq, hbefore⟩
        · rw [hf] at hfq
          cases hfq
        · exact ⟨q, hq, hfq, fun p hp => hbefore p (.inr hp)⟩

/-- EXP and S1 to S6. -/
theorem mem_outQueues (q : QueueIx) : q ∈ ([0, 1, 2, 3, 4, 5, 6] : List QueueIx) ↔ q.val ≤ 6 := by
  revert q
  decide

theorem outQueues_ascending : ([0, 1, 2, 3, 4, 5, 6] : List QueueIx).Pairwise (· < ·) := by decide

/-- R65: the queue selector B takes where no slot is QUEUED. -/
theorem State.queueB_eq_some_iff (s : State) (q : QueueIx) (h : Block) :
    ([0, 1, 2, 3, 4, 5, 6] : List QueueIx).findSome? s.eligibleHead = some (.queue q h) ↔
      q.val ≤ 6 ∧ s.eligible q = true ∧ (s.queue q).frames.head? = some h ∧
        ∀ p : QueueIx, p < q → s.eligible p = false := by
  rw [findSome_ascending _ _ outQueues_ascending]
  simp only [mem_outQueues, eligibleHead_eq_some_iff, eligibleHead_eq_none_iff]
  constructor
  · rintro ⟨p, hp, ⟨he, k, hk, hsrc⟩, hbefore⟩
    cases hsrc
    exact ⟨hp, he, hk, fun p hpq => hbefore p (le_trans (Fin.le_of_lt hpq) hp) hpq⟩
  · rintro ⟨hq, he, hh, hbefore⟩
    exact ⟨q, hq, ⟨he, h, hh, rfl⟩, fun p _ hpq => hbefore p hpq⟩

theorem State.queueB_eq_none_iff (s : State) :
    ([0, 1, 2, 3, 4, 5, 6] : List QueueIx).findSome? s.eligibleHead = none ↔
      ∀ q : QueueIx, q.val ≤ 6 → s.eligible q = false := by
  simp only [List.findSome?_eq_none_iff, mem_outQueues, eligibleHead_eq_none_iff]

/-- R65: a queue, and no slot, comes from the queues. -/
theorem State.queueB_ne_slot (s : State) (i : SlotIx) :
    ([0, 1, 2, 3, 4, 5, 6] : List QueueIx).findSome? s.eligibleHead ≠ some (.slot i) := by
  intro h
  obtain ⟨q, -, hq⟩ := List.exists_of_findSome?_eq_some h
  obtain ⟨-, k, -, hsrc⟩ := (s.eligibleHead_eq_some_iff q _).mp hq
  cases hsrc

theorem State.sourceB_eq_slot_iff (s : State) (i : SlotIx) :
    s.sourceB = some (.slot i) ↔ (s.agent .b).nextQueued = some i := by
  cases hn : (s.agent .b).nextQueued with
  | some j => simp [sourceB, hn]
  | none => cases hm : s.trunkMode <;> simp [sourceB, hn, hm, s.queueB_ne_slot i]

theorem State.sourceB_eq_queue_iff (s : State) (q : QueueIx) (h : Block) :
    s.sourceB = some (.queue q h) ↔
      (s.agent .b).nextQueued = none ∧ s.trunkMode = .running ∧ q.val ≤ 6 ∧ s.eligible q = true ∧
        (s.queue q).frames.head? = some h ∧ ∀ p : QueueIx, p < q → s.eligible p = false := by
  cases hn : (s.agent .b).nextQueued with
  | some j => simp [sourceB, hn]
  | none => cases hm : s.trunkMode <;> simp [sourceB, hn, hm, s.queueB_eq_some_iff q h]

theorem State.sourceB_eq_none_iff (s : State) :
    s.sourceB = none ↔
      (s.agent .b).nextQueued = none ∧ (s.trunkMode = .stopped ∨ ∀ q : QueueIx, q.val ≤ 6 → s.eligible q = false) := by
  cases hn : (s.agent .b).nextQueued with
  | some j => simp [sourceB, hn]
  | none =>
    cases hm : s.trunkMode with
    | running => simp only [sourceB, hn, hm, s.queueB_eq_none_iff]; simp
    | stopped => simp [sourceB, hn, hm]

theorem State.sourceA_eq_slot_iff (s : State) (i : SlotIx) :
    s.sourceA = some (.slot i) ↔ (s.agent .a).nextQueued = some i := by
  cases hn : (s.agent .a).nextQueued with
  | some j => simp [sourceA, hn]
  | none => simp [sourceA, hn, eligibleHead_eq_some_iff]

theorem State.sourceA_eq_queue_iff (s : State) (q : QueueIx) (h : Block) :
    s.sourceA = some (.queue q h) ↔
      (s.agent .a).nextQueued = none ∧ q = 7 ∧ s.eligible q = true ∧ (s.queue q).frames.head? = some h := by
  cases hn : (s.agent .a).nextQueued with
  | some j => simp [sourceA, hn]
  | none =>
    simp only [sourceA, hn, eligibleHead_eq_some_iff, queueInb, Source.queue.injEq, true_and]
    constructor
    · rintro ⟨he, k, hk, rfl, rfl⟩
      exact ⟨rfl, he, hk⟩
    · rintro ⟨rfl, he, hh⟩
      exact ⟨he, h, hh, rfl, rfl⟩

theorem State.sourceA_eq_none_iff (s : State) :
    s.sourceA = none ↔ (s.agent .a).nextQueued = none ∧ s.eligible 7 = false := by
  cases hn : (s.agent .a).nextQueued with
  | some j => simp [sourceA, hn]
  | none => simp [sourceA, hn, eligibleHead_eq_none_iff, queueInb]

/-- Settles O47: the gate, the sponsor and each source by its own lemma. -/
theorem eligibilitySponsorAndPriority : Obligations.EligibilitySponsorAndPriority := by
  refine ⟨fun s q => ?_, fun s => ?_⟩
  · intro scheduled openFor
    have hscheduled : isScheduled q = true ↔ scheduled := isScheduled_iff q
    have hopens : ∀ w : WindowIx, s.windows[w].opensFor q = true ↔ scheduled ∧ openFor w := fun w => by
      rw [Window.opensFor_iff, hscheduled]
    have hclosed : ∀ w : WindowIx, ¬openFor w → s.windows[w].opensFor q = false := fun w hw =>
      Bool.eq_false_iff.mpr fun h => hw ((hopens w).mp h).2
    refine ⟨?_, fun w hq hvalid hmark hw hfirst => ?_, fun hnone => ?_⟩
    · have hfree : isScheduled q = false ↔ ¬scheduled := by rw [← hscheduled, Bool.not_eq_true]
      rw [State.eligible_iff, State.gateOpen_iff, hfree]
      simp only [hopens]
      by_cases hq : scheduled <;> simp [hq]
    · rw [State.sponsorOf, if_pos (by simp [hscheduled.mpr hq, hvalid, hmark])]
      exact State.openWindowFor_eq_some ((hopens w).mpr ⟨hq, hw⟩) fun v hv => hclosed v (hfirst v hv)
    · rw [State.sponsorOf]
      split
      · rename_i hcond
        simp only [Bool.and_eq_true, beq_iff_eq, hscheduled] at hcond
        obtain ⟨⟨hq, hvalid⟩, hmark⟩ := hcond
        rcases hnone with h | h | h | h
        · exact absurd hq h
        · rw [hvalid] at h
          cases h
        · omega
        · exact State.openWindowFor_eq_none fun w => hclosed w (h w)
      · rfl
  · refine ⟨fun i => ?_, fun i => ?_, fun q h => ?_, fun q h => ?_, ?_, ?_⟩
    · rw [State.sourceB_eq_slot_iff, LineAgent.nextQueued_eq_some_iff]
    · rw [State.sourceA_eq_slot_iff, LineAgent.nextQueued_eq_some_iff]
    · rw [State.sourceB_eq_queue_iff, LineAgent.nextQueued_eq_none_iff]
    · rw [State.sourceA_eq_queue_iff, LineAgent.nextQueued_eq_none_iff, Fin.ext_iff]
      rfl
    · rw [State.sourceB_eq_none_iff, LineAgent.nextQueued_eq_none_iff]
    · rw [State.sourceA_eq_none_iff, LineAgent.nextQueued_eq_none_iff]

end Sys2Proof.Machine
end

section
/-! SUPPORT. What a step can do, said once: the moves of which every command is made, each in the items that the
invariants of Sys2Proof/Safety.lean read. -/

namespace Sys2Proof.Machine

/-- The chain of the frame that a line's intake is receiving: no block while nothing is claimed. -/
def State.receivedChain (s : State) (l : Line) : List Block :=
  match (s.receiver l).handle with
  | none => []
  | some h => (s.record h).chain

/-- One move of the part. Its guards hold in every state in which a command makes it, invariants or none. -/
inductive Move : State → State → Prop where
  /-- Items that no invariant reads. -/
  | noted (s : State) (draws : Nat) (uptime : Word32) (divider : Nat) (station : Octet) (classifier : Classifier)
      (charge : Option Charge) (mode : TrunkMode) (grant : Bool) (sent : PerLine (List Octet))
      (counters : Vector Word32 121) :
      Move s { s with
               draws := draws, uptime := uptime, uptimeDivider := divider, station := station
               classifier := classifier, charge := charge, trunkMode := mode, grant := grant, sent := sent
               counters := counters }
  -- Events and notices (chapter 10)
  | evaluated (s : State) (u : EventUnit) (hu : u.notice = s.events.notice) :
      Move s { s with events := u.evaluate s.settings.noticeRepeat }
  | repeatCounted (s : State) : Move s { s with events := s.events.uptimeSecond }
  | repeatExpired (s : State) (h : s.events.repeatExpired = true) : Move s { s with events := s.events.owe }
  | noticeReported (s : State) (h : s.events.notice.state = .owed) :
      Move s { s with events := s.events.noticeBuilt s.settings.noticeRepeat }
  -- Clocks, supplies and resets (chapter 3)
  | ticked (s : State) : Move s { s with tk := s.tk.secondStep }
  | crystalRuns (s : State) : Move s { s with tk := { s.tk with crystal := .running } }
  | divided (s : State) (n : Nat) (hn : n ≤ 32767) : Move s { s with tk := { s.tk with divider := n } }
  | timeLoaded (s : State) (c : Calendar) (hc : c.valid = true) (hr : s.tk.crystal = .running) :
      Move s { s with tk := { s.tk with cal := c, divider := 0, timeValid := true } }
  | clockStopped (s : State) (h : s.supply ≠ .main) :
      Move s { s with tk := { s.tk with crystal := .stopped, timeValid := false } }
  | clockStoppedWindowsClosed (s : State) :
      Move s { s with
               tk := { s.tk with crystal := .stopped, timeValid := false }
               windows := mapTable
                 (fun _ w => if w.state.running then { w with state := w.state.close } else w) s.windows }
  | supplyLost (s : State) (x : Supply) (hx : x ≠ .main) : Move s { s with supply := x }
  | timekeepingStarted (s : State) (x : Supply) (hx : x ≠ .main) :
      Move s { s with tk := Timekeeping.start, supply := x }
  | coreReset (s : State) (strap : Octet) : Move s (coreReset strap s)
  | trafficRestarted (s : State) : Move s (trafficRestart s)
  -- Settings and timers (R170, R64)
  | settingsWritten (s : State) (t : Settings) (ht : s.settings.inRange = true → t.inRange = true) :
      Move s { s with settings := t }
  | timersSet (s : State) (g h : Nat) (hg : g ≤ max s.grantTimer s.settings.grantTimeout)
      (hh : h ≤ max s.holdoffTimer s.settings.holdOff) : Move s { s with grantTimer := g, holdoffTimer := h }
  -- Windows (chapter 2)
  | windowsBoundary (s : State) (c : Calendar) (h : s.tk.timeValid = true) :
      Move s { s with windows := mapTable (fun _ w => w.boundary c) s.windows }
  | windowCharged (s : State) (i : WindowIx) (n : Nat) (opening : Word16) :
      Move s (setWindow i (s.windows[i].charged n opening) s)
  | windowWritten (s : State) (i : WindowIx) (e : WindowEntry) (he : e.inRange = true) :
      Move s (setWindow i
        { entry := e, state := if s.windows[i].state.running then s.windows[i].state.close else s.windows[i].state } s)
  -- Receivers and their frames (chapter 7)
  | receiverNoted (s : State) (l : Line) (r : Receiver) (hstate : r.state = (s.receiver l).state)
      (hdecoded : r.decoded = (s.receiver l).decoded) (hheld : r.held = (s.receiver l).held)
      (hhandle : r.handle = (s.receiver l).handle) : Move s (setReceiver l r s)
  | receiverIdle (s : State) (l : Line) (r : Receiver) (hs : (s.receiver l).state ≠ .inFrame)
      (hr : r.state ≠ .inFrame) (hhandle : r.handle = none ∨ r.handle = (s.receiver l).handle) :
      Move s (setReceiver l r s)
  | frameBegun (s : State) (l : Line) (r : Receiver) (hs : (s.receiver l).state ≠ .inFrame)
      (hdecoded : r.decoded = 0) (hheld : r.held = []) (hr : r.state = .inFrame)
      (hhandle : r.handle = (s.receiver l).handle) : Move s (setReceiver l r s)
  | octetHeld (s : State) (l : Line) (r : Receiver) (hs : (s.receiver l).state = .inFrame) (hr : r.state = .inFrame)
      (hdecoded : r.decoded = (s.receiver l).decoded + 1) (hheld : r.held.length = (s.receiver l).held.length + 1)
      (hroom : (s.receiver l).held.length < 2) (hhandle : r.handle = (s.receiver l).handle) :
      Move s (setReceiver l r s)
  | octetStored (s : State) (l : Line) (r : Receiver) (h : Block) (rec : FrameRecord) (claimed rest : List Block)
      (a : Nat) (o : Octet) (armed : Bool) (hs : (s.receiver l).state = .inFrame) (hr : r.state = .inFrame)
      (hdecoded : r.decoded = (s.receiver l).decoded + 1) (hheld : r.held.length = (s.receiver l).held.length)
      (htwo : 2 ≤ (s.receiver l).held.length) (hhandle : r.handle = some h)
      (hsame : ∀ g, (s.receiver l).handle = some g → g = h)
      (hfirst : (s.receiver l).handle = none → claimed = [h])
      (hfree : s.store.free = claimed ++ rest)
      (hclaimed : claimed.length = if s.receivedLength l % 64 = 0 then 1 else 0)
      (hchain : rec.chain = s.receivedChain l ++ claimed) (hlength : rec.length = s.receivedLength l + 1)
      (hmax : rec.length ≤ s.settings.maxFrameLength) (ha : a < 32768) :
      Move s (setReceiver l r { s with store :=
        { mem := memWrite s.store.mem a o, free := rest, records := s.store.records.set h.val rec h.isLt
          armed := armed } })
  | frameDropped (s : State) (l : Line) (r : Receiver) (armed : Bool) (hr : r.state ≠ .inFrame)
      (hhandle : r.handle = none) :
      Move s (setReceiver l r { s with store :=
        { s.store with free := s.store.free ++ s.receivedChain l, armed := armed } })
  | frameCompleted (s : State) (l : Line) (h : Block) (rec : FrameRecord) (hs : (s.receiver l).state = .inFrame)
      (hhandle : (s.receiver l).handle = some h) (hdecoded : 5 ≤ (s.receiver l).decoded)
      (hchain : rec.chain = (s.record h).chain) (hlength : rec.length = (s.receiver l).decoded - 2) :
      Move s (setRecord h rec s)
  | recordNoted (s : State) (h : Block) (rec : FrameRecord) (hchain : rec.chain = (s.record h).chain)
      (hlength : rec.length = (s.record h).length) : Move s (setRecord h rec s)
  | frameJoined (s : State) (l : Line) (r : Receiver) (h : Block) (q : QueueIx)
      (hhandle : (s.receiver l).handle = some h) (hlength : 3 ≤ (s.record h).length) (hr : r.state ≠ .inFrame)
      (hnone : r.handle = none) :
      Move s (setReceiver l r (setQueue q { s.queue q with frames := (s.queue q).frames ++ [h] } s))
  -- Queues (chapter 1)
  | queueWritten (s : State) (q : QueueIx) (x : Queue) (hframes : x.frames = (s.queue q).frames)
      (hmark : x.mark = (s.queue q).mark ∨ isScheduled q = true ∧ x.mark = x.count) : Move s (setQueue q x s)
  | framesReleased (s : State) (n : QueueIx → Nat) (order : List QueueIx) (queues : Vector Queue 8)
      (free : List Block) (armed : Bool) (horder : order.Perm (List.finRange 8))
      (hframes : ∀ q : QueueIx, queues[q].frames = (s.queue q).frames.drop (n q))
      (hmark : ∀ q : QueueIx, queues[q].mark ≤ (s.queue q).mark - n q)
      (hfree : free = s.store.free ++
        (order.flatMap fun q => (s.queue q).frames.take (n q)).flatMap fun h => (s.record h).chain) :
      Move s { s with queues := queues, store := { s.store with free := free, armed := armed } }
  -- Transmitters (chapter 4)
  | frameDepartedA (s : State) (q : QueueIx) (h : Block) (marked : Bool) (sponsor : Option Sponsor) (os : List Octet)
      (hidle : s.txA = .idle) (hhead : (s.queue q).frames.head? = some h) :
      Move s { setQueue q (s.queue q).departed s with txA := .sending (.frame q h marked sponsor) os }
  | frameDepartedB (s : State) (q : QueueIx) (h : Block) (sponsor : Option Sponsor) (tx : TxB)
      (hidle : s.txB = .idle) (hhead : (s.queue q).frames.head? = some h)
      (htx : tx = .requesting (.frame q h (0 < (s.queue q).mark) sponsor) ∨
        ∃ os, tx = .sending (.frame q h (0 < (s.queue q).mark) sponsor) os) :
      Move s { setQueue q (s.queue q).departed s with txB := tx }
  | transmitterBStepped (s : State) (tx : TxB)
      (h : (∃ f, s.txB = .requesting f ∧ ∃ os, tx = .sending f os) ∨
        (s.txB.framesHeld = [] ∧ s.slotInFlight .b = none ∧ (tx = .idle ∨ tx = .holdoff))) :
      Move s { s with txB := tx }
  | frameReleasedA (s : State) (q : QueueIx) (h : Block) (marked : Bool) (sponsor : Option Sponsor) (os : List Octet)
      (armed : Bool) (htx : s.txA = .sending (.frame q h marked sponsor) os) :
      Move s { s with
               store := { s.store with free := s.store.free ++ (s.record h).chain, armed := armed }, txA := .idle }
  | frameReleasedB (s : State) (h : Block) (armed : Bool) (htx : s.txB.framesHeld = [h]) :
      Move s { s with
               store := { s.store with free := s.store.free ++ (s.record h).chain, armed := armed }, txB := .idle }
  | frameReturned (s : State) (q : QueueIx) (h : Block) (marked : Bool) (htx : s.txB.framesHeld = [h])
      (hmarked : marked = true → s.txB.markedSource = some q) :
      Move s { returnToHead q h marked s with txB := .idle }
  -- Slots (8.2, 8.4)
  | slotSelectedA (s : State) (i : SlotIx) (os : List Octet) (hidle : s.txA = .idle)
      (hslot : (s.agent .a).slots[i].state = .queued) :
      Move s { setAgent .a ((s.agent .a).startSending i) s with txA := .sending (.slot i) os }
  | slotSelectedB (s : State) (i : SlotIx) (tx : TxB) (hidle : s.txB = .idle)
      (hslot : (s.agent .b).slots[i].state = .queued)
      (htx : tx = .requesting (.slot i) ∨ ∃ os, tx = .sending (.slot i) os) :
      Move s { setAgent .b ((s.agent .b).startSending i) s with txB := tx }
  | slotEndedA (s : State) (i : SlotIx) (h : s.slotInFlight .a = some i) :
      Move s { slotEnded .a i s with txA := .idle }
  | slotEndedB (s : State) (i : SlotIx) (n : Nat) (h : s.slotInFlight .b = some i) :
      Move s { slotEnded .b i (setAgent .b ((s.agent .b).backToQueued i n) s) with txB := .idle }
  | slotReturnedB (s : State) (i : SlotIx) (n : Nat) (h : s.slotInFlight .b = some i) :
      Move s { setAgent .b ((s.agent .b).backToQueued i n) s with txB := .idle }
  | slotPlaced (s : State) (l : Line) (i : SlotIx) (f : SlotFrame) (hfree : (s.agent l).slots[i].state = .free) :
      Move s (setAgent l ((s.agent l).place i f) s)
  | slotRequeued (s : State) (l : Line) (c : Cache) (hcache : (s.agent l).cache = some c)
      (hcached : (s.agent l).slots[c.slot].state = .cached) : Move s (setAgent l ((s.agent l).requeue c.slot) s)
  | requestAnswered (s : State) (l : Line) (i : SlotIx) (f : SlotFrame) (seq code : Octet) (rs : RestartState)
      (hfree : (s.agent l).slots[i].state = .free) (hrole : f.role = .response)
      (hpayload : f.payload.take 2 = [seq, code]) (hnormal : s.restart = .normal)
      (hrs : rs = .normal ∨ ∃ sc, rs = .pending sc l i 2) :
      Move s { setAgent l (((s.agent l).place i f).moveCache ⟨seq, code, i⟩) s with restart := rs }
  | restartDue (s : State) (sc : Scope) (l : Line) (i : SlotIx) (d : Nat) (h : s.restart = .pending sc l i d) :
      Move s { s with restart := .due sc l i }

/-- The states that moves lead to, one after another. -/
abbrev Reaches : State → State → Prop := Relation.ReflTransGen Move

theorem Move.reaches {s t : State} (h : Move s t) : Reaches s t := .single h

theorem Reaches.of_eq {s t : State} (h : s = t) : Reaches s t := h ▸ .refl

/-- An invariant that every move keeps holds in every state that moves lead to. -/
theorem Reaches.keeps {P : State → Prop} (hmove : ∀ {s t}, Move s t → P s → P t) {s t : State} (h : Reaches s t)
    (hs : P s) : P t := by
  induction h with
  | refl => exact hs
  | tail _ hmv ih => exact hmove hmv ih

end Sys2Proof.Machine
end

section
/-! SUPPORT. The receiver and its intake (R114 to R118, R133 to R139): what a data octet, a stored octet and the end of a
frame do, each said once. -/

namespace Sys2Proof.Machine

theorem receivedLength_of_handle {s : State} {l : Line} {h : Block} (hh : (s.receiver l).handle = some h) :
    s.receivedLength l = (s.record h).length := by
  simp only [State.receivedLength, hh]

theorem receivedLength_of_none {s : State} {l : Line} (hh : (s.receiver l).handle = none) :
    s.receivedLength l = 0 := by
  simp only [State.receivedLength, hh]

theorem receivedChain_of_handle {s : State} {l : Line} {h : Block} (hh : (s.receiver l).handle = some h) :
    s.receivedChain l = (s.record h).chain := by
  simp only [State.receivedChain, hh]

theorem receivedChain_of_none {s : State} {l : Line} (hh : (s.receiver l).handle = none) :
    s.receivedChain l = [] := by
  simp only [State.receivedChain, hh]

/-- R118: intake's release, as one release of what it has claimed. -/
theorem releaseReceiving_eq (s : State) (l : Line) :
    releaseReceiving (s.receiver l).handle s =
      { s with store := { s.store with
                          free := s.store.free ++ s.receivedChain l
                          armed := (releaseReceiving (s.receiver l).handle s).store.armed } } := by
  cases hh : (s.receiver l).handle with
  | none =>
    rw [receivedChain_of_none hh, List.append_nil]
    rfl
  | some h =>
    rw [receivedChain_of_handle hh]
    rfl

/-! ### Data octets (R133) -/

/-- R133: a data octet while fewer than two octets are held. -/
theorem takeData_short {l : Line} {o : Octet} {s : State} (h : (s.receiver l).held.length < 2) :
    takeData l o s = setReceiver l
      { s.receiver l with
        escapePending := false, decoded := (s.receiver l).decoded + 1, held := (s.receiver l).held ++ [o] } s := by
  match hh : (s.receiver l).held with
  | [] => simp [takeData, hh]
  | [x] => simp [takeData, hh]
  | _ :: _ :: _ => simp [hh] at h

/-- R133: a data octet while two octets are held. -/
theorem takeData_long {l : Line} {o x y : Octet} {zs : List Octet} {s : State}
    (h : (s.receiver l).held = x :: y :: zs) :
    takeData l o s = releaseHeld l x o (setReceiver l
      { s.receiver l with escapePending := false, decoded := (s.receiver l).decoded + 1 } s) := by
  simp only [takeData, h]

/-- R135: the octet that would pass the max frame length. -/
theorem releaseHeld_long {l : Line} {x o : Octet} {s : State}
    (h : s.settings.maxFrameLength < s.receivedLength l + 1) : releaseHeld l x o s = reject l .longFrame s :=
  if_pos h

/-- R136: the octet whose claim fails. -/
theorem releaseHeld_failed {l : Line} {x o : Octet} {s : State} (h : s.receivedLength l + 1 ≤ s.settings.maxFrameLength)
    (hc : storeOctet l x s = none) : releaseHeld l x o s = reject l .storeDrop s := by
  rw [releaseHeld, if_neg (by omega), hc]

/-- R133: the octet that is stored. -/
theorem releaseHeld_stored {l : Line} {x o : Octet} {s t : State} {h : Block}
    (hm : s.receivedLength l + 1 ≤ s.settings.maxFrameLength) (hc : storeOctet l x s = some (h, t)) :
    releaseHeld l x o s = setReceiver l
      { s.receiver l with
        check := checkOctet (s.receiver l).check x, held := (s.receiver l).held.tail ++ [o], handle := some h } t := by
  rw [releaseHeld, if_neg (by omega), hc]

/-! ### Storing an octet (R114, R115) -/

/-- R114: a record written twice is the second record. -/
theorem setRecord_setRecord (h : Block) (r r' : FrameRecord) (s : State) :
    setRecord h r' (setRecord h r s) = setRecord h r' s := by
  simp [setRecord]

/-- R114: an octet stored for a frame, as one write of memory and record. -/
theorem putOctet_eq (h : Block) (o : Octet) (s : State) :
    putOctet h o s =
      { s with store :=
        { s.store with
          mem := memWrite s.store.mem (blockAddr ((s.record h).chain.getLastD h) ((s.record h).length % 64)) o
          records := s.store.records.set h.val
            { s.record h with length := (s.record h).length + 1 } h.isLt } } := rfl

/-- R114: an octet stored for a frame whose record has just been written. -/
theorem putOctet_setRecord (h : Block) (r : FrameRecord) (o : Octet) (s : State) :
    putOctet h o (setRecord h r s) =
      { s with store :=
        { s.store with
          mem := memWrite s.store.mem (blockAddr (r.chain.getLastD h) (r.length % 64)) o
          records := s.store.records.set h.val { r with length := r.length + 1 } h.isLt } } := by
  rw [putOctet_eq, record_setRecord_same]
  simp [setRecord]

/-- R114: a frame has no claimed position left exactly where its length is a multiple of 64. -/
theorem full_iff (r : FrameRecord) : r.full = true ↔ r.length % 64 = 0 := beq_iff_eq

/-- R114: an octet that needs no claim. -/
theorem storeOctet_unclaimed {l : Line} {o : Octet} {s : State} {h : Block} (hh : (s.receiver l).handle = some h)
    (hf : (s.record h).length % 64 ≠ 0) : storeOctet l o s = some (h, putOctet h o s) := by
  rw [ne_eq, ← full_iff] at hf
  rw [storeOctet, hh]
  simp only [if_neg hf]

/-- R114, R115: the first claim of a frame, and the octet it is for. -/
theorem storeOctet_first {l : Line} {o : Octet} {s t : State} {b : Block} (hh : (s.receiver l).handle = none)
    (hc : claim l s = some (b, t)) : storeOctet l o s = some (b, putOctet b o (openRecord l b t)) := by
  rw [storeOctet, hh]
  simp only [hc]

/-- R114, R115: a later claim of a frame, and the octet it is for. -/
theorem storeOctet_later {l : Line} {o : Octet} {s t : State} {h b : Block} (hh : (s.receiver l).handle = some h)
    (hf : (s.record h).length % 64 = 0) (hc : claim l s = some (b, t)) :
    storeOctet l o s = some (h, putOctet h o (extendChain h b t)) := by
  rw [← full_iff] at hf
  rw [storeOctet, hh]
  simp only [if_pos hf, hc]

/-- R115: an octet is not stored exactly where it needs a claim and the claim fails. -/
theorem storeOctet_eq_none_iff {l : Line} {o : Octet} {s : State} :
    storeOctet l o s = none ↔ claim l s = none ∧ s.receivedLength l % 64 = 0 := by
  cases hh : (s.receiver l).handle with
  | none =>
    rw [receivedLength_of_none hh]
    cases hc : claim l s with
    | none => simp [storeOctet, hh, hc]
    | some p => simp [storeOctet_first hh hc]
  | some h =>
    rw [receivedLength_of_handle hh]
    by_cases hf : (s.record h).length % 64 = 0
    · cases hc : claim l s with
      | none => simp [storeOctet, hh, hc, full_iff, hf]
      | some p => simp [storeOctet_later hh hf hc]
    · simp [storeOctet_unclaimed hh hf, hf]

/-- R114: what storing an octet does, claims included: the blocks claimed leave the head of the free list and extend the
chain, and one octet is written behind those the frame has. -/
theorem storeOctet_some {l : Line} {o : Octet} {s t : State} {h : Block} (hst : storeOctet l o s = some (h, t)) :
    ∃ (claimed : List Block) (rec : FrameRecord) (a : Nat),
      s.store.free = claimed ++ t.store.free ∧
      claimed.length = (if s.receivedLength l % 64 = 0 then 1 else 0) ∧
      ((s.receiver l).handle = none → claimed = [h]) ∧ (∀ g, (s.receiver l).handle = some g → g = h) ∧
      rec.chain = s.receivedChain l ++ claimed ∧ rec.length = s.receivedLength l + 1 ∧ a < 32768 ∧
      t = { s with
            store := { mem := memWrite s.store.mem a o, free := t.store.free
                       records := s.store.records.set h.val rec h.isLt, armed := t.store.armed }
            events := t.events } ∧
      (t.events = s.events ∨ t.events = (raise .storeLow s).events) := by
  have haddr : ∀ (b : Block) (n : Nat), blockAddr b (n % 64) < 32768 := fun b n =>
    blockAddr_lt b _ (Nat.mod_lt n (by decide))
  have hevents : ∀ u : State, (lowTest u).events = u.events ∨ (lowTest u).events = (raise .storeLow u).events := by
    intro u
    simp only [lowTest, raise]
    split
    · exact .inr rfl
    · exact .inl rfl
  cases hh : (s.receiver l).handle with
  | none =>
    have hsome : ¬ storeOctet l o s = none := by simp [hst]
    rw [storeOctet_eq_none_iff, receivedLength_of_none hh] at hsome
    obtain ⟨⟨b, u⟩, hc⟩ := Option.ne_none_iff_exists'.mp fun hc => hsome ⟨hc, rfl⟩
    rw [storeOctet_first hh hc, Option.some.injEq, Prod.mk.injEq] at hst
    obtain ⟨rfl, rfl⟩ := hst
    obtain ⟨-, rest, hfree, rfl⟩ := claim_some hc
    rw [receivedLength_of_none hh, receivedChain_of_none hh, openRecord, putOctet_setRecord]
    exact ⟨[b], _, _, hfree, rfl, fun _ => rfl, fun g hg => by simp at hg, rfl, rfl, haddr b 0, rfl, hevents _⟩
  | some g =>
    rw [receivedLength_of_handle hh, receivedChain_of_handle hh]
    by_cases hf : (s.record g).length % 64 = 0
    · have hsome : ¬ storeOctet l o s = none := by simp [hst]
      rw [storeOctet_eq_none_iff, receivedLength_of_handle hh] at hsome
      obtain ⟨⟨b, u⟩, hc⟩ := Option.ne_none_iff_exists'.mp fun hc => hsome ⟨hc, hf⟩
      rw [storeOctet_later hh hf hc, Option.some.injEq, Prod.mk.injEq] at hst
      obtain ⟨rfl, rfl⟩ := hst
      obtain ⟨-, rest, hfree, rfl⟩ := claim_some hc
      rw [extendChain, putOctet_setRecord]
      exact ⟨[b], _, _, hfree, by rw [if_pos hf]; rfl, fun h => by simp at h, fun k hk => by simpa using hk.symm, rfl,
        rfl, haddr _ _, rfl, hevents _⟩
    · rw [storeOctet_unclaimed hh hf, Option.some.injEq, Prod.mk.injEq] at hst
      obtain ⟨rfl, rfl⟩ := hst
      exact ⟨[], { s.record g with length := (s.record g).length + 1 }, _, rfl,
        by rw [if_neg hf]; rfl, fun h => by simp at h, fun k hk => by simpa using hk.symm,
        (List.append_nil _).symm, rfl, haddr _ _, rfl, .inl rfl⟩

end Sys2Proof.Machine
end

section
/-! SUPPORT. What the executions of the catalogue answer (R150, R168, R169): a length check first, then a refusal that
changes nothing or a reply after an effect at the owner, each effect named once. -/

namespace Sys2Proof.Machine

/-- What the executions of the catalogue do at the owners of their items. -/
inductive Effect (l : Line) (i : SlotIx) : State → State → Prop where
  | nothing (s : State) : Effect l i s s
  | settings (s : State) (t : Settings) (ht : s.settings.inRange = true → t.inRange = true) :
      Effect l i s { s with settings := t }
  | restart (s : State) (sc : Scope) : Effect l i s { s with restart := .pending sc l i 2 }
  | time (s : State) (c : Calendar) (hc : c.valid = true) (hr : s.tk.crystal = .running) : Effect l i s (loadTime c s)
  | classifier (s : State) (c : Classifier) : Effect l i s { s with classifier := c }
  | activation (s : State) (copy : Bool) : Effect l i s (activate copy s)
  | queue (s : State) (q : QueueIx) (x : Queue) (hframes : x.frames = (s.queue q).frames)
      (hmark : x.mark = (s.queue q).mark ∨ isScheduled q = true ∧ x.mark = x.count) : Effect l i s (setQueue q x s)
  | flush (s : State) (q : QueueIx) : Effect l i s (flushQueue q s)
  | window (s : State) (w : WindowIx) (e : WindowEntry) (he : e.inRange = true) : Effect l i s (writeWindow w e s)
  | trunkStopped (s : State) : Effect l i s (stopTrunk s)
  | trunkRestarted (s : State) : Effect l i s { s with trunkMode := .running }
  | acknowledged (s : State) (set : Word16) : Effect l i s (ackEvents set s)
  | masked (s : State) (mask : Word16) : Effect l i s (writeEventMask mask s)
  | cleared (s : State) (clear : Bool) (lo n : Nat) : Effect l i s (clearCounters clear lo n s)

/-- The effect of a read. -/
def Unchanged (_ : Line) (_ : SlotIx) (s u : State) : Prop := u = s

/-- R150, R168: a reply to parameters of the right length: a refusal by the index, a value or the state, which changes
nothing, or a response after an effect. -/
inductive Replies (effect : State → State → Prop) (s : State) : Reply → Prop where
  | refused (st : Status) (hok : st ≠ .ok) (hform : st ≠ .badRequest) : Replies effect s (refuse st s)
  | carriedOut (data : List Octet) (u : State) (h : effect s u) : Replies effect s (carryOut data u)

/-- R168: an execution whose parameters have a length of their own. -/
structure Answers (run : Execution) (length : Nat) (effect : Line → SlotIx → State → State → Prop) : Prop where
  form : ∀ l i ps s, ps.length ≠ length → run l i ps s = refuse .badRequest s
  replies : ∀ l i ps s, ps.length = length → Replies (effect l i) s (run l i ps s)

theorem Answers.toEffect {run : Execution} {n : Nat} (h : Answers run n Unchanged) : Answers run n Effect := by
  refine ⟨h.form, fun l i ps s hps => ?_⟩
  generalize hr : run l i ps s = reply
  have hreply := h.replies l i ps s hps
  rw [hr] at hreply
  cases hreply with
  | refused st hok hform => exact .refused st hok hform
  | carriedOut data u hu =>
    cases hu
    exact .carriedOut data s (.nothing s)

/-- A read leaves every owner as it was. -/
theorem Answers.state_eq {run : Execution} {n : Nat} (h : Answers run n Unchanged) (l : Line) (i : SlotIx)
    (ps : List Octet) (s : State) : (run l i ps s).state = s := by
  by_cases hps : ps.length = n
  · generalize hr : run l i ps s = reply
    have hreply := h.replies l i ps s hps
    rw [hr] at hreply
    cases hreply with
    | refused => rfl
    | carriedOut data u hu => exact hu
  · rw [h.form l i ps s hps]
    rfl

/-! ### By the number of parameters -/

section
variable {run : Execution} {effect : Line → SlotIx → State → State → Prop}

theorem answers_zero (hform : ∀ l i p ps s, run l i (p :: ps) s = refuse .badRequest s)
    (h : ∀ l i s, Replies (effect l i) s (run l i [] s)) : Answers run 0 effect := by
  refine ⟨fun l i ps s hps => ?_, fun l i ps s hps => ?_⟩
  · obtain ⟨p, ps, rfl⟩ := List.exists_cons_of_ne_nil (List.ne_nil_of_length_pos (Nat.pos_of_ne_zero hps))
    exact hform l i p ps s
  · obtain rfl := List.length_eq_zero_iff.mp hps
    exact h l i s

theorem answers_one (hnone : ∀ l i s, run l i [] s = refuse .badRequest s)
    (hmore : ∀ l i p q ps s, run l i (p :: q :: ps) s = refuse .badRequest s)
    (h : ∀ l i x s, Replies (effect l i) s (run l i [x] s)) : Answers run 1 effect := by
  refine ⟨fun l i ps s hps => ?_, fun l i ps s hps => ?_⟩
  · match ps, hps with
    | [], _ => exact hnone l i s
    | [_], hps => exact absurd rfl hps
    | p :: q :: ps, _ => exact hmore l i p q ps s
  · obtain ⟨x, rfl⟩ := List.length_eq_one_iff.mp hps
    exact h l i x s

theorem answers_two (hnone : ∀ l i s, run l i [] s = refuse .badRequest s)
    (hone : ∀ l i p s, run l i [p] s = refuse .badRequest s)
    (hmore : ∀ l i p q o ps s, run l i (p :: q :: o :: ps) s = refuse .badRequest s)
    (h : ∀ l i x y s, Replies (effect l i) s (run l i [x, y] s)) : Answers run 2 effect := by
  refine ⟨fun l i ps s hps => ?_, fun l i ps s hps => ?_⟩
  · match ps, hps with
    | [], _ => exact hnone l i s
    | [p], _ => exact hone l i p s
    | [_, _], hps => exact absurd rfl hps
    | p :: q :: o :: ps, _ => exact hmore l i p q o ps s
  · obtain ⟨x, y, rfl⟩ := List.length_eq_two.mp hps
    exact h l i x y s

end

/-- A refusal by an index. -/
theorem replies_badIndex {effect : State → State → Prop} {s : State} : Replies effect s (refuse .badIndex s) :=
  .refused _ (by decide) (by decide)

/-- A refusal by a value. -/
theorem replies_badValue {effect : State → State → Prop} {s : State} : Replies effect s (refuse .badValue s) :=
  .refused _ (by decide) (by decide)

/-! ### The reads -/

theorem runIdentify_answers : Answers runIdentify 0 Unchanged :=
  answers_zero (fun _ _ _ _ _ => rfl) fun _ _ s => .carriedOut _ s rfl

theorem runReadSettings_answers : Answers runReadSettings 0 Unchanged :=
  answers_zero (fun _ _ _ _ _ => rfl) fun _ _ s => .carriedOut _ s rfl

theorem runReadTime_answers : Answers runReadTime 0 Unchanged :=
  answers_zero (fun _ _ _ _ _ => rfl) fun _ _ s => .carriedOut _ s rfl

theorem runReadBankState_answers : Answers runReadBankState 0 Unchanged :=
  answers_zero (fun _ _ _ _ _ => rfl) fun _ _ s => .carriedOut _ s rfl

theorem runReadWindowState_answers : Answers runReadWindowState 0 Unchanged :=
  answers_zero (fun _ _ _ _ _ => rfl) fun _ _ s => .carriedOut _ s rfl

theorem runReadEvents_answers : Answers runReadEvents 0 Unchanged :=
  answers_zero (fun _ _ _ _ _ => rfl) fun _ _ s => .carriedOut _ s rfl

theorem runReadRule_answers : Answers runReadRule 2 Unchanged := by
  refine answers_two (fun _ _ _ => rfl) (fun _ _ _ _ => rfl) (fun _ _ _ _ _ _ _ => rfl) fun l i x y s => ?_
  rw [runReadRule]
  split
  · exact .carriedOut _ s rfl
  · exact replies_badIndex

theorem runReadQueue_answers : Answers runReadQueue 1 Unchanged := by
  refine answers_one (fun _ _ _ => rfl) (fun _ _ _ _ _ _ => rfl) fun l i x s => ?_
  rw [runReadQueue]
  split
  · exact replies_badIndex
  · exact .carriedOut _ s rfl

theorem runReadWindow_answers : Answers runReadWindow 1 Unchanged := by
  refine answers_one (fun _ _ _ => rfl) (fun _ _ _ _ _ _ => rfl) fun l i x s => ?_
  rw [runReadWindow]
  split
  · exact replies_badIndex
  · exact .carriedOut _ s rfl

/-! ### The writes -/

theorem runWriteSettings_answers : Answers runWriteSettings 13 Effect := by
  refine ⟨fun l i ps s hps => if_neg hps, fun l i ps s hps => ?_⟩
  rw [runWriteSettings, if_pos hps]
  split
  · exact replies_badValue
  · rename_i t ht
    exact .carriedOut _ _ (.settings s t fun _ => (Settings.of_read ht).1)

theorem runSetRemoteAccess_answers : Answers runSetRemoteAccess 1 Effect := by
  refine answers_one (fun _ _ _ => rfl) (fun _ _ _ _ _ _ => rfl) fun l i x s => ?_
  rw [runSetRemoteAccess]
  split
  · exact replies_badValue
  · exact .carriedOut _ _ (.settings s _ id)

theorem runRestart_answers : Answers runRestart 1 Effect := by
  refine answers_one (fun _ _ _ => rfl) (fun _ _ _ _ _ _ => rfl) fun l i x s => ?_
  rw [runRestart]
  split
  · exact replies_badValue
  · exact .carriedOut _ _ (.restart s _)

/-- R53: a calendar that is read is valid. -/
theorem Calendar.valid_of_read {ps : List Octet} {c : Calendar} (h : Calendar.read ps = some c) : c.valid = true := by
  unfold Calendar.read at h
  split at h
  · obtain ⟨hvalid, hc⟩ := Option.ite_none_right_eq_some.mp h
    exact Option.some.inj hc ▸ hvalid
  · cases h

theorem runSetTime_answers : Answers runSetTime 7 Effect := by
  refine ⟨fun l i ps s hps => if_neg hps, fun l i ps s hps => ?_⟩
  rw [runSetTime, if_pos hps]
  split
  · exact replies_badValue
  · rename_i c hc
    split
    · exact .carriedOut _ _ (.time s c (Calendar.valid_of_read hc) ‹_›)
    · exact .refused _ (by decide) (by decide)

theorem runWriteRule_answers : Answers runWriteRule 18 Effect := by
  refine ⟨fun l i ps s hps => ?_, fun l i ps s hps => ?_⟩
  · match ps with
    | [] => rfl
    | x :: es => exact if_neg fun h => hps (congrArg Nat.succ h)
  · match ps, hps with
    | x :: es, hps =>
      rw [runWriteRule, if_pos (Nat.succ.inj hps)]
      split
      · exact replies_badIndex
      · split
        · exact replies_badValue
        · exact .carriedOut _ _ (.classifier s _)

theorem runClearStandby_answers : Answers runClearStandby 0 Effect :=
  answers_zero (fun _ _ _ _ _ => rfl) fun _ _ s => .carriedOut _ _ (.classifier s _)

theorem runActivate_answers : Answers runActivate 1 Effect := by
  refine answers_one (fun _ _ _ => rfl) (fun _ _ _ _ _ _ => rfl) fun l i x s => ?_
  rw [runActivate]
  split
  · exact replies_badValue
  · exact .carriedOut _ _ (.activation s _)

theorem runWriteQueue_answers : Answers runWriteQueue 5 Effect := by
  refine ⟨fun l i ps s hps => ?_, fun l i ps s hps => ?_⟩
  · unfold runWriteQueue
    split
    · exact absurd rfl hps
    · rfl
  · obtain ⟨x, li, a1, a2, fb, rfl⟩ : ∃ x li a1 a2 fb, ps = [x, li, a1, a2, fb] := by
      match ps, hps with
      | [x, li, a1, a2, fb], _ => exact ⟨x, li, a1, a2, fb, rfl⟩
    simp only [runWriteQueue]
    split
    · exact replies_badIndex
    · split
      · exact replies_badValue
      · split
        · exact replies_badValue
        · exact .carriedOut _ _ (.queue s _ _ rfl (.inl rfl))

/-- R181: the commands that write a queue's record. -/
theorem runQueueCommand_answers {f : QueueIx → State → State} (hf : ∀ l i q s, Effect l i s (f q s)) :
    Answers (runQueueCommand f) 1 Effect := by
  refine answers_one (fun _ _ _ => rfl) (fun _ _ _ _ _ _ => rfl) fun l i x s => ?_
  rw [runQueueCommand]
  split
  · exact replies_badIndex
  · exact .carriedOut _ _ (hf l i _ s)

theorem runFreezeQueue_answers : Answers runFreezeQueue 1 Effect :=
  runQueueCommand_answers fun _ _ q s => .queue s q _ rfl (.inl rfl)

theorem runResumeQueue_answers : Answers runResumeQueue 1 Effect :=
  runQueueCommand_answers fun _ _ q s => .queue s q _ rfl (.inl rfl)

theorem runReleaseQueue_answers : Answers runReleaseQueue 1 Effect := by
  refine runQueueCommand_answers fun _ _ q s => .queue s q _ rfl ?_
  by_cases hq : isScheduled q = true
  · exact .inr ⟨hq, if_pos hq⟩
  · exact .inl (if_neg hq)

theorem runFlushQueue_answers : Answers runFlushQueue 1 Effect := by
  refine answers_one (fun _ _ _ => rfl) (fun _ _ _ _ _ _ => rfl) fun l i x s => ?_
  rw [runFlushQueue]
  split
  · exact replies_badIndex
  · exact .carriedOut _ _ (.flush s _)

/-- R183: a window entry that is read is within the table. -/
theorem WindowEntry.inRange_of_read {es : List Octet} {e : WindowEntry} (h : WindowEntry.read es = some e) :
    e.inRange = true := by
  have hread := h
  unfold WindowEntry.read at h
  split at h
  · exact (WindowEntry.of_read hread).1
  · cases h

theorem runWriteWindow_answers : Answers runWriteWindow 12 Effect := by
  refine ⟨fun l i ps s hps => ?_, fun l i ps s hps => ?_⟩
  · match ps with
    | [] => rfl
    | x :: es => exact if_neg fun h => hps (congrArg Nat.succ h)
  · match ps, hps with
    | x :: es, hps =>
      rw [runWriteWindow, if_pos (Nat.succ.inj hps)]
      split
      · exact replies_badIndex
      · split
        · exact replies_badValue
        · rename_i e he
          exact .carriedOut _ _ (.window s _ e (WindowEntry.inRange_of_read he))

theorem runStopTrunk_answers : Answers runStopTrunk 0 Effect :=
  answers_zero (fun _ _ _ _ _ => rfl) fun _ _ s => .carriedOut _ _ (.trunkStopped s)

theorem runRestartTrunk_answers : Answers runRestartTrunk 0 Effect :=
  answers_zero (fun _ _ _ _ _ => rfl) fun _ _ s => .carriedOut _ _ (.trunkRestarted s)

theorem runAckEvents_answers : Answers runAckEvents 2 Effect :=
  answers_two (fun _ _ _ => rfl) (fun _ _ _ _ => rfl) (fun _ _ _ _ _ _ _ => rfl)
    fun _ _ _ _ s => .carriedOut _ _ (.acknowledged s _)

theorem runWriteEventMask_answers : Answers runWriteEventMask 2 Effect :=
  answers_two (fun _ _ _ => rfl) (fun _ _ _ _ => rfl) (fun _ _ _ _ _ _ _ => rfl)
    fun _ _ _ _ s => .carriedOut _ _ (.masked s _)

/-- R205: READ COUNTERS, by the effect of its clear flag: nothing where the flag is not 1. -/
theorem runReadCounters_replies (l : Line) (i : SlotIx) (g first count flag : Octet) (s : State) :
    Replies (fun s u => (flag ≠ 1 → u = s) ∧ Effect l i s u) s (runReadCounters l i [g, first, count, flag] s) := by
  simp only [runReadCounters]
  split
  · exact replies_badIndex
  · split
    · split
      · exact replies_badValue
      · rename_i clear hclear
        split
        · refine .carriedOut _ _ ⟨fun hflag => ?_, .cleared s _ _ _⟩
          by_cases hle : flag.toNat ≤ 1
          · rw [readYesNo_eq_some hle, decide_eq_false hflag] at hclear
            cases hclear
            rfl
          · rw [readYesNo_eq_none (by omega)] at hclear
            cases hclear
        · exact replies_badValue
    · exact replies_badIndex

theorem Replies.mono {p q : State → State → Prop} {s : State} {r : Reply} (h : Replies p s r)
    (hpq : ∀ u, p s u → q s u) : Replies q s r := by
  cases h with
  | refused st hok hform => exact .refused st hok hform
  | carriedOut data u hu => exact .carriedOut data u (hpq u hu)

theorem runReadCounters_answers : Answers runReadCounters 4 Effect := by
  refine ⟨fun l i ps s hps => ?_, fun l i ps s hps => ?_⟩
  · unfold runReadCounters
    split
    · exact absurd rfl hps
    · rfl
  · match ps, hps with
    | [g, first, count, flag], _ => exact (runReadCounters_replies l i g first count flag s).mono fun _ h => h.2

/-! ### The catalogue (R209) -/

/-- R168, R209: a code of the catalogue answers by its parameter length, and any other is refused. -/
theorem runOf_answers (code : Octet) :
    (paramLength code = none ∧ runOf code = runUnknown) ∨
      ∃ n, paramLength code = some n ∧ Answers (runOf code) n Effect := by
  generalize hrun : runOf code = run
  unfold runOf at hrun
  split at hrun <;> rename_i hc <;> subst hrun
  · exact .inr ⟨0, by simp only [paramLength, hc], runIdentify_answers.toEffect⟩
  · exact .inr ⟨0, by simp only [paramLength, hc], runReadSettings_answers.toEffect⟩
  · exact .inr ⟨13, by simp only [paramLength, hc], runWriteSettings_answers⟩
  · exact .inr ⟨1, by simp only [paramLength, hc], runSetRemoteAccess_answers⟩
  · exact .inr ⟨0, by simp only [paramLength, hc], runReadTime_answers.toEffect⟩
  · exact .inr ⟨7, by simp only [paramLength, hc], runSetTime_answers⟩
  · exact .inr ⟨2, by simp only [paramLength, hc], runReadRule_answers.toEffect⟩
  · exact .inr ⟨0, by simp only [paramLength, hc], runReadBankState_answers.toEffect⟩
  · exact .inr ⟨18, by simp only [paramLength, hc], runWriteRule_answers⟩
  · exact .inr ⟨0, by simp only [paramLength, hc], runClearStandby_answers⟩
  · exact .inr ⟨1, by simp only [paramLength, hc], runActivate_answers⟩
  · exact .inr ⟨1, by simp only [paramLength, hc], runReadQueue_answers.toEffect⟩
  · exact .inr ⟨5, by simp only [paramLength, hc], runWriteQueue_answers⟩
  · exact .inr ⟨1, by simp only [paramLength, hc], runFreezeQueue_answers⟩
  · exact .inr ⟨1, by simp only [paramLength, hc], runResumeQueue_answers⟩
  · exact .inr ⟨1, by simp only [paramLength, hc], runFlushQueue_answers⟩
  · exact .inr ⟨1, by simp only [paramLength, hc], runReleaseQueue_answers⟩
  · exact .inr ⟨1, by simp only [paramLength, hc], runReadWindow_answers.toEffect⟩
  · exact .inr ⟨0, by simp only [paramLength, hc], runReadWindowState_answers.toEffect⟩
  · exact .inr ⟨12, by simp only [paramLength, hc], runWriteWindow_answers⟩
  · exact .inr ⟨0, by simp only [paramLength, hc], runStopTrunk_answers⟩
  · exact .inr ⟨0, by simp only [paramLength, hc], runRestartTrunk_answers⟩
  · exact .inr ⟨0, by simp only [paramLength, hc], runReadEvents_answers.toEffect⟩
  · exact .inr ⟨2, by simp only [paramLength, hc], runAckEvents_answers⟩
  · exact .inr ⟨2, by simp only [paramLength, hc], runWriteEventMask_answers⟩
  · exact .inr ⟨4, by simp only [paramLength, hc], runReadCounters_answers⟩
  · exact .inr ⟨1, by simp only [paramLength, hc], runRestart_answers⟩
  · refine .inl ⟨?_, rfl⟩
    unfold paramLength
    split
    case h_28 => rfl
    all_goals simp_all

/-- R169: a read-class request leaves every owner as it was. -/
theorem runOf_state_of_read {code : Octet} {ps : List Octet} (h : requestClass code ps = .read) (l : Line) (i : SlotIx)
    (s : State) : (runOf code l i ps s).state = s := by
  have hcode : ∀ n, code.toNat = n → code = BitVec.ofNat 8 n := by
    rintro _ rfl
    simp
  have hwrite : ∀ n, code.toNat = n → requestClass (BitVec.ofNat 8 n) ps = .read := fun n hn => hcode n hn ▸ h
  generalize hrun : runOf code = run
  unfold runOf at hrun
  split at hrun <;> subst hrun
  case h_1 => exact runIdentify_answers.state_eq ..
  case h_2 => exact runReadSettings_answers.state_eq ..
  case h_5 => exact runReadTime_answers.state_eq ..
  case h_7 => exact runReadRule_answers.state_eq ..
  case h_8 => exact runReadBankState_answers.state_eq ..
  case h_12 => exact runReadQueue_answers.state_eq ..
  case h_18 => exact runReadWindow_answers.state_eq ..
  case h_19 => exact runReadWindowState_answers.state_eq ..
  case h_23 => exact runReadEvents_answers.state_eq ..
  case h_26 hc =>
    by_cases hps : ps.length = 4
    · match ps, hps with
      | [g, first, count, flag], _ =>
        have hflag : flag ≠ 1 := by
          rintro rfl
          exact absurd (hwrite _ hc) (by simp [requestClass])
        generalize hr : runReadCounters l i [g, first, count, flag] s = reply
        have hreply := runReadCounters_replies l i g first count flag s
        rw [hr] at hreply
        cases hreply with
        | refused => rfl
        | carriedOut data u hu => exact hu.1 hflag
    · rw [runReadCounters_answers.form l i ps s hps]
      rfl
  case h_28 => rfl
  all_goals exact absurd (hwrite _ ‹code.toNat = _›) (by simp [requestClass, writeCodes])

end Sys2Proof.Machine
end

section
/-! SUPPORT. The moves of every shared operation, of every effect of a request, and of the request event (R153 to R158). -/

namespace Sys2Proof.Machine

/-- Items that no invariant reads, after moves. -/
theorem Reaches.noted {s u t : State} (h : Reaches s u)
    (ht : t = { u with
                draws := t.draws, uptime := t.uptime, uptimeDivider := t.uptimeDivider, station := t.station
                classifier := t.classifier, charge := t.charge, trunkMode := t.trunkMode, grant := t.grant
                sent := t.sent, counters := t.counters }) : Reaches s t :=
  ht ▸ h.tail (Move.noted ..)

/-! ### Raises (R191) -/

theorem reaches_raise (e : Event) (s : State) : Reaches s (raise e s) := by
  by_cases h : s.events.states[e.number] = .clear
  · have heq : s.events.raise s.settings.noticeRepeat e = EventUnit.evaluate s.settings.noticeRepeat
        { s.events with states := s.events.states.set e.number.val .unreported e.number.isLt } := if_pos h
    rw [raise, heq]
    exact (Move.evaluated s _ (by rfl)).reaches
  · have heq : raise e s = s := by simp only [raise, raise_of_pending h]
    rw [heq]

theorem Reaches.raise {s u : State} {e : Event} (h : Reaches s u) : Reaches s (raise e u) := h.trans (reaches_raise e u)

theorem Reaches.raiseTimes {s u : State} {e : Event} {n : Nat} (h : Reaches s u) : Reaches s (raiseTimes e n u) := by
  rw [Machine.raiseTimes, raiseTimes_eq]
  split
  · exact h
  · exact h.raise

theorem Reaches.raiseIf {s u : State} {c : Bool} {e : Event} (h : Reaches s u) : Reaches s (raiseIf c e u) := by
  cases c with
  | false => exact h
  | true => exact h.raise

/-! ### Queues (R10, R15, R120) -/

/-- The frames of one queue among those of all. -/
theorem flatMap_single {α : Type} (q : QueueIx) (xs : List α) :
    ((List.finRange 8).flatMap fun p => if p = q then xs else []) = xs := by
  fin_cases q <;> simp [List.finRange_succ]

/-- R15: a flush as one release of the frames of its queue. -/
theorem flushQueue_eq (q : QueueIx) (s : State) :
    flushQueue q s =
      { setQueue q { s.queue q with frames := [], mark := 0 } s with
        store := { s.store with
                   free := s.store.free ++ (s.queue q).frames.flatMap fun h => (s.record h).chain
                   armed := (releaseFrames (s.queue q).frames s).store.armed }
        counters := (flushQueue q s).counters } := by
  have hcounters : (flushQueue q s).counters = (flushQueue q s).counters := rfl
  rw [← releaseFrames_free]
  conv_lhs => rw [flushQueue, releaseFrames_frame]
  rw [flushQueue, releaseFrames_frame]
  rfl

theorem reaches_flushQueue (q : QueueIx) (s : State) : Reaches s (flushQueue q s) := by
  rw [flushQueue_eq]
  refine Reaches.noted (Move.framesReleased s (fun p => if p = q then (s.queue p).count else 0) (List.finRange 8)
    (s.queues.set q.val { s.queue q with frames := [], mark := 0 } q.isLt)
    (s.store.free ++ (s.queue q).frames.flatMap fun h => (s.record h).chain)
    (releaseFrames (s.queue q).frames s).store.armed (.refl _) (fun p => ?_) (fun p => ?_) ?_).reaches rfl
  · rw [table_set_get]
    split
    · rename_i hp
      simp [hp, Queue.count]
    · rfl
  · rw [table_set_get]
    split
    · exact Nat.zero_le _
    · exact le_refl _
  · have hone : ∀ p : QueueIx, (s.queue p).frames.take (if p = q then (s.queue p).count else 0) =
        if p = q then (s.queue q).frames else [] := by
      intro p
      by_cases hp : p = q
      · simp [hp, Queue.count]
      · simp [hp]
    simp only [hone, flatMap_single]

/-! ### Windows and charges (R34, R39) -/

theorem reaches_writeWindow (i : WindowIx) (e : WindowEntry) (s : State) (he : e.inRange = true) :
    Reaches s (writeWindow i e s) :=
  (Move.windowWritten s i e he).reaches.raiseIf

theorem reaches_takeCharge (s : State) : Reaches s (takeCharge s) := by
  rw [takeCharge]
  split
  · exact .refl
  · rename_i c _
    exact Reaches.raiseIf ((Reaches.noted .refl rfl).tail (Move.windowCharged _ _ _ _))

/-! ### STOP TRUNK (R81) -/

theorem reaches_stopTrunk (s : State) : Reaches s (stopTrunk s) := by
  rw [stopTrunk]
  split
  · rename_i q h marked sponsor htx
    exact .noted (Move.frameReturned s q h marked (by rw [htx]; rfl) fun hm => by rw [htx, hm]; rfl).reaches rfl
  · rename_i q h marked sponsor stream htx
    exact .noted (Move.frameReturned s q h marked (by rw [htx]; rfl) fun hm => by rw [htx, hm]; rfl).reaches rfl
  all_goals exact .noted .refl rfl

/-! ### Effects of a request -/

/-- An effect is the record of a RESTART, or moves that leave agent and restart state as they were. -/
theorem Effect.reaches {l : Line} {i : SlotIx} {s u : State} (h : Effect l i s u) :
    (∃ sc, u = { s with restart := .pending sc l i 2 }) ∨
      (Reaches s u ∧ u.mgmt = s.mgmt ∧ u.restart = s.restart) := by
  cases h with
  | nothing => exact .inr ⟨.refl, rfl, rfl⟩
  | settings t ht => exact .inr ⟨(Move.settingsWritten s t ht).reaches, rfl, rfl⟩
  | restart sc => exact .inl ⟨sc, rfl⟩
  | time c hc hr => exact .inr ⟨(Move.timeLoaded s c hc hr).reaches.raise, rfl, rfl⟩
  | classifier c => exact .inr ⟨.noted .refl rfl, rfl, rfl⟩
  | activation copy =>
    exact .inr ⟨.raise (.noted .refl rfl), rfl, rfl⟩
  | queue q x hframes hmark => exact .inr ⟨(Move.queueWritten s q x hframes hmark).reaches, rfl, rfl⟩
  | flush q => exact .inr ⟨reaches_flushQueue q s, by rw [flushQueue_eq]; rfl, by rw [flushQueue_eq]; rfl⟩
  | window w e he => exact .inr ⟨reaches_writeWindow w e s he, rfl, rfl⟩
  | trunkStopped =>
    have hkept : (stopTrunk s).mgmt = s.mgmt ∧ (stopTrunk s).restart = s.restart := by
      rw [stopTrunk]
      split <;> exact ⟨rfl, rfl⟩
    exact .inr ⟨reaches_stopTrunk s, hkept⟩
  | trunkRestarted => exact .inr ⟨.noted .refl rfl, rfl, rfl⟩
  | acknowledged set =>
    rw [ackEvents, EventUnit.acknowledge]
    exact .inr ⟨(Move.evaluated s _ (by rfl)).reaches, rfl, rfl⟩
  | masked mask =>
    rw [writeEventMask, EventUnit.writeMask]
    exact .inr ⟨(Move.evaluated s _ (by rfl)).reaches, rfl, rfl⟩
  | cleared clear lo n => exact .inr ⟨.noted .refl rfl, rfl, rfl⟩

/-- An execution of the catalogue refuses without an effect, or has one. -/
theorem runOf_effect (code : Octet) (l : Line) (i : SlotIx) (ps : List Octet) (s : State) :
    Effect l i s (runOf code l i ps s).state := by
  rcases runOf_answers code with ⟨-, hun⟩ | ⟨n, -, hans⟩
  · rw [hun]
    exact .nothing s
  · by_cases hps : ps.length = n
    · generalize hr : runOf code l i ps s = reply
      have hreply := hans.replies l i ps s hps
      rw [hr] at hreply
      cases hreply with
      | refused => exact .nothing s
      | carriedOut data u hu => exact hu
    · rw [hans.form l i ps s hps]
      exact .nothing s

/-! ### The request event (R153 to R158) -/

theorem reaches_answer {r : Request} {i : SlotIx} {st : Status} {data : List Octet} {s : State}
    (h : (s.agent r.line).firstFree = some i) : Reaches s (answer r i st data s) :=
  (Move.slotPlaced s r.line i _ (firstFree_free h)).reaches

/-- R155: a duplicate. -/
theorem reaches_afterDuplicate (l : Line) (s : State) : Reaches s (setAgent l (s.agent l).afterDuplicate s) := by
  have hsame : setAgent l (s.agent l) s = s := by simp [setAgent, State.agent]
  rw [LineAgent.afterDuplicate]
  split
  · rw [hsame]
  · split
    · exact (Move.slotRequeued s l _ ‹_› ‹_›).reaches
    · rw [hsame]

/-- R158: what an execution leaves, as one change of agent, restart state and counters after its effect. -/
theorem execute_eq (run : Execution) (r : Request) (i : SlotIx) (s : State)
    (hm : (run r.line i r.params s).state.mgmt = s.mgmt) :
    execute run r i s =
      { (run r.line i r.params s).state with
        mgmt := s.mgmt.set r.line
          (((s.agent r.line).place i (responseFrame r (run r.line i r.params s).status
            (run r.line i r.params s).data)).moveCache ⟨r.seq, r.code, i⟩)
        counters := (execute run r i s).counters } := by
  generalize hr : run r.line i r.params s = reply at hm
  obtain ⟨st, data, u⟩ := reply
  simp only at hm
  simp only [execute, hr, answer, bump, bumpBy, setAgent, State.agent, perLine_get_set_same, perLine_set_set, hm]

/-- R158: an execution of the catalogue while no restart is pending. -/
theorem reaches_execute {r : Request} {i : SlotIx} {s : State} (hfree : (s.agent r.line).firstFree = some i)
    (hnormal : s.restart = .normal) : Reaches s (execute (runOf r.code) r i s) := by
  rcases (runOf_effect r.code r.line i r.params s).reaches with ⟨sc, hu⟩ | ⟨hreach, hm, hrs⟩
  · rw [execute_eq _ _ _ _ (by rw [hu]), hu]
    exact .noted (Move.requestAnswered s r.line i (responseFrame r _ _) r.seq r.code (.pending sc r.line i 2)
      (firstFree_free hfree) rfl rfl hnormal (.inr ⟨sc, rfl⟩)).reaches rfl
  · rw [execute_eq _ _ _ _ hm]
    generalize (runOf r.code r.line i r.params s).status = st
    generalize (runOf r.code r.line i r.params s).data = data
    generalize (runOf r.code r.line i r.params s).state = u at hreach hm hrs
    have hagent : s.agent r.line = u.agent r.line := by simp only [State.agent, hm]
    have hn : u.restart = .normal := hrs.trans hnormal
    have hmove := Move.requestAnswered u r.line i (responseFrame r st data) r.seq r.code u.restart
      (hagent ▸ firstFree_free hfree) rfl rfl hn (.inl hn)
    rw [← hm, hagent]
    exact .noted (hreach.tail hmove) rfl

theorem restart_normal {s : State} (h : ¬s.restartPending = true) : s.restart = .normal := by
  simpa [State.restartPending] using h

/-- R153 to R158: the request event of a code of the catalogue. -/
theorem reaches_takeRequest (r : Request) (s : State) : Reaches s (takeRequest (runOf r.code) r s) := by
  rw [takeRequest]
  split
  · rw [takeAuthorised]
    split
    · exact .trans (Reaches.noted .refl rfl) (reaches_afterDuplicate r.line (bump (.mgmt .duplicates) s))
    · rw [takeWithSlot]
      split
      · exact .noted .refl rfl
      · split
        · exact reaches_answer ‹_›
        · exact reaches_execute ‹_› (restart_normal ‹_›)
  · exact .raise (.noted .refl rfl)
  · refine .raise (Reaches.noted (u := answerDenied r s) ?_ rfl)
    rw [answerDenied]
    split
    · exact .noted .refl rfl
    · exact reaches_answer ‹_›

theorem reaches_takePayload (l : Line) (src : Octet) (payload : List Octet) (s : State) :
    Reaches s (takePayload l src payload s) := by
  unfold takePayload
  split
  · exact .noted .refl rfl
  · exact .noted .refl rfl
  · exact reaches_takeRequest ..

end Sys2Proof.Machine
end

section
/-! SUPPORT. The moves of the transmission events (chapter 4). -/

namespace Sys2Proof.Machine

/-! ### Selections (R65, R79, R84) -/

/-- R65, R69: a source taken by selector B, with whatever follows in the transmitter and its timers. -/
theorem reaches_takeSourceB {s : State} {src : Source} {tx : TxB} (hidle : s.txB = .idle) (hsrc : s.sourceB = some src)
    (htx : tx = .requesting (s.inFlightOf src) ∨ ∃ os, tx = .sending (s.inFlightOf src) os) :
    Reaches s { takeSource .b src s with txB := tx } := by
  cases src with
  | slot i =>
    exact (Move.slotSelectedB s i tx hidle
      (LineAgent.queued_of_nextQueued ((s.sourceB_eq_slot_iff i).mp hsrc)) htx).reaches
  | queue q h =>
    obtain ⟨-, -, -, -, hhead, -⟩ := (s.sourceB_eq_queue_iff q h).mp hsrc
    exact (Move.frameDepartedB s q h (s.sponsorOf q) tx hidle hhead htx).reaches

theorem reaches_selectB {s : State} (hidle : s.txB = .idle) : Reaches s (selectB s) := by
  rw [selectB]
  split
  · exact .refl
  · rename_i src hsrc
    have htaken : Reaches s { takeSource .b src s with
        txB := (requestGrant (s.inFlightOf src) (takeSource .b src s)).txB } := by
      refine reaches_takeSourceB hidle hsrc ?_
      rw [requestGrant]
      split
      · exact .inr ⟨_, rfl⟩
      · exact .inl rfl
    exact htaken.tail (Move.timersSet _ _ _ (by exact le_max_right _ _) (by exact le_max_left _ _))

/-- R79: a continuation, after moves that leave transmitter B without its old record. -/
theorem Reaches.continueB {s u : State} (h : Reaches s { u with txB := .idle }) : Reaches s (continueB u) := by
  rw [Machine.continueB]
  split
  · exact h
  · rename_i src hsrc
    have hsource : State.sourceB { u with txB := .idle } = some src := hsrc
    cases src with
    | slot i => exact h.trans (reaches_takeSourceB rfl hsource (.inr ⟨_, rfl⟩))
    | queue q k => exact h.trans (reaches_takeSourceB rfl hsource (.inr ⟨_, rfl⟩))

/-- R84, R85: a selection of selector A, after moves that leave transmitter A without its old record. -/
theorem Reaches.selectA {s u : State} (h : Reaches s { u with txA := .idle }) : Reaches s (selectA u) := by
  rw [Machine.selectA]
  split
  · exact h
  · rename_i src hsrc
    cases src with
    | slot i =>
      exact h.tail (Move.slotSelectedA { u with txA := .idle } i _ rfl
        (LineAgent.queued_of_nextQueued ((u.sourceA_eq_slot_iff i).mp hsrc)))
    | queue q k =>
      obtain ⟨-, -, -, hhead⟩ := (u.sourceA_eq_queue_iff q k).mp hsrc
      exact h.tail (Move.frameDepartedA { u with txA := .idle } q k _ _ _ rfl hhead)

/-! ### Grants and failed attempts (R69 to R75) -/

theorem reaches_takeGrant (s : State) : Reaches s (takeGrant s) := by
  rw [takeGrant]
  split
  · exact .refl
  · rename_i f htx
    exact (Move.transmitterBStepped s _ (.inl ⟨f, htx, _, rfl⟩)).reaches
  · exact .refl
  · exact .refl

/-- R75: HOLDOFF, or IDLE for a hold-off of 0, after moves that leave transmitter B without its old record. -/
theorem Reaches.enterHoldoff {s u : State} (h : Reaches s { u with txB := .idle }) : Reaches s (enterHoldoff u) := by
  refine (h.tail (Move.transmitterBStepped _ (if u.settings.holdOff = 0 then .idle else .holdoff)
    (.inr ⟨rfl, rfl, ?_⟩))).tail (Move.timersSet _ _ u.settings.holdOff (le_max_left _ _) (le_max_right _ _))
  split
  · exact .inl rfl
  · exact .inr rfl

/-- R73: a failed attempt of a data frame. -/
theorem reaches_failFrame {s : State} {q : QueueIx} {h : Block} {marked : Bool} (hheld : s.txB.framesHeld = [h])
    (hmarked : marked = true → s.txB.markedSource = some q) :
    Reaches s { failFrame q h marked s with txB := .idle } := by
  have hnoted : Reaches s (setRecord h { s.record h with attempts := (s.record h).attempts + 1 } s) :=
    (Move.recordNoted s h _ (by rfl) (by rfl)).reaches
  rw [failFrame]
  split
  · exact Reaches.raise (u := { bump (.queue q .retryDrops) (releaseFrame h (raise .grantFail
      (setRecord h { s.record h with attempts := (s.record h).attempts + 1 } s))) with txB := .idle })
      (.noted ((hnoted.raise (e := .grantFail)).tail (Move.frameReleasedB _ h _ hheld)) rfl)
  · exact hnoted.raise (e := .grantFail) |>.tail (Move.frameReturned _ q h marked hheld hmarked)

/-- R74: a failed attempt of a line B slot. -/
theorem reaches_failSlot {s : State} {i : SlotIx} (hslot : s.slotInFlight .b = some i) :
    Reaches s { failSlot i s with txB := .idle } := by
  rw [failSlot]
  split
  · exact .noted ((reaches_raise .grantFail s).tail (Move.slotEndedB _ i _ hslot)) rfl
  · exact (reaches_raise .grantFail s).tail (Move.slotReturnedB _ i _ hslot)

/-- R73, R74: a failed attempt of what transmitter B has in flight. -/
theorem reaches_failAttempt {s : State} {f : InFlight} (htx : s.txB = .requesting f ∨ ∃ os, s.txB = .sending f os) :
    Reaches s (failAttempt f s) := by
  have hframes : s.txB.framesHeld = f.framesHeld := by rcases htx with h | ⟨os, h⟩ <;> rw [h] <;> rfl
  have hmarks : s.txB.markedSource = f.markedSource := by rcases htx with h | ⟨os, h⟩ <;> rw [h] <;> rfl
  have hslots : s.slotInFlight .b = f.slotHeld := by
    rcases htx with h | ⟨os, h⟩ <;> simp only [State.slotInFlight, h]
  cases f with
  | frame q h marked sponsor =>
    exact (reaches_failFrame hframes fun hm => by rw [hmarks, hm]; rfl).enterHoldoff
  | slot i => exact (reaches_failSlot hslots).enterHoldoff

theorem reaches_timeOutGrant (s : State) : Reaches s (timeOutGrant s) := by
  rw [timeOutGrant]
  split
  · exact .refl
  · rename_i f htx
    have htimer : Reaches s (bump .grantTimeouts { s with grantTimer := 0 }) :=
      .noted (Move.timersSet s 0 s.holdoffTimer (Nat.zero_le _) (le_max_left _ _)).reaches rfl
    exact htimer.trans (reaches_failAttempt (.inl htx))
  · exact .refl
  · exact .refl

theorem reaches_loseGrant (s : State) : Reaches s (loseGrant s) := by
  rw [loseGrant]
  split
  · exact .refl
  · exact .refl
  · rename_i f stream htx
    have hcut : Reaches s (bump .grantLosses (cancelSending .b stream s)) := .noted .refl rfl
    exact hcut.trans (reaches_failAttempt (.inr ⟨stream, htx⟩))
  · exact .refl

theorem reaches_endHoldoff (s : State) : Reaches s (endHoldoff s) := by
  rw [endHoldoff]
  split
  · exact .refl
  · exact .refl
  · exact .refl
  · rename_i htx
    exact (Move.transmitterBStepped s .idle (.inr ⟨by rw [htx]; rfl, by simp only [State.slotInFlight, htx],
      .inl rfl⟩)).reaches.tail (Move.timersSet _ _ 0 (le_max_left _ _) (Nat.zero_le _))

/-! ### Completions (R77, R78, R85) -/

theorem takeCharge_txB (s : State) : (takeCharge s).txB = s.txB := by
  unfold takeCharge
  cases s.charge with
  | none => rfl
  | some c => rfl

/-- R34: a charge does not depend on what transmitter B has in flight. -/
theorem takeCharge_setTxB (s : State) (tx : TxB) : takeCharge { s with txB := tx } = { takeCharge s with txB := tx } := by
  cases h : s.charge with
  | none => simp only [takeCharge, h]
  | some c => simp only [takeCharge, h]; rfl

/-- R77: the completion of a data frame, with transmitter B's record dropped. -/
theorem reaches_completeFrameB {s : State} {q : QueueIx} {h : Block} {marked : Bool} {sponsor : Option Sponsor}
    {os : List Octet} (htx : s.txB = .sending (.frame q h marked sponsor) os) :
    Reaches s { completeFrameB q h sponsor os s with txB := .idle } :=
  .noted (Move.frameReleasedB s h _ (by rw [htx]; rfl)).reaches rfl

theorem reaches_endFrameB (chargeFirst : Bool) (s : State) : Reaches s (endFrameB chargeFirst s) := by
  rw [endFrameB]
  split
  · exact .refl
  · exact .refl
  · rename_i q h marked sponsor stream htx
    have hdone := (reaches_takeCharge s).trans (reaches_completeFrameB ((takeCharge_txB s).trans htx))
    refine Reaches.continueB ?_
    cases chargeFirst with
    | false => exact hdone
    | true =>
      rw [if_pos rfl, ← takeCharge_setTxB]
      exact hdone.trans (reaches_takeCharge _)
  · exact .refl
  · exact .refl

/-- R160: the end of a sending does not depend on the slot's state and attempt count, which it writes. -/
theorem endSending_backToQueued (g : LineAgent) (i : SlotIx) :
    (g.backToQueued i g.slots[i].attempts).endSending i = g.endSending i := by
  have hcache : (g.backToQueued i g.slots[i].attempts).isCacheSlot i = g.isCacheSlot i := rfl
  have hslot : (g.backToQueued i g.slots[i].attempts).endedSlot i = g.endedSlot i := by
    rw [LineAgent.endedSlot, LineAgent.endedSlot, hcache]
    simp only [LineAgent.backToQueued, LineAgent.setSlot, table_set_get_same]
  simp only [LineAgent.endSending, hslot]
  simp [LineAgent.backToQueued, LineAgent.setSlot]

/-- R78: the completion of a slot of line B, with transmitter B's record dropped. -/
theorem reaches_completeSlotB {s : State} {i : SlotIx} {os : List Octet} (htx : s.txB = .sending (.slot i) os) :
    Reaches s { completeSlot .b i os s with txB := .idle } := by
  have hended : Reaches s { slotEnded .b i s with txB := .idle } := by
    refine (Move.slotEndedB s i (s.agent .b).slots[i].attempts (by simp only [State.slotInFlight, htx]; rfl)).reaches.trans
      (Reaches.of_eq ?_)
    simp only [slotEnded, agent_setAgent_same, endSending_backToQueued]
    rfl
  refine hended.noted ?_
  rw [completeSlot]
  split <;> rfl

theorem reaches_endSlotB (s : State) : Reaches s (endSlotB s) := by
  rw [endSlotB]
  split
  · exact .refl
  · exact .refl
  · exact .refl
  · rename_i i stream htx
    exact Reaches.continueB ((reaches_takeCharge s).trans (reaches_completeSlotB ((takeCharge_txB s).trans htx)))
  · exact .refl

theorem reaches_endA (s : State) : Reaches s (endA s) := by
  rw [endA]
  split
  · exact .refl
  · rename_i q h marked sponsor stream htx
    exact Reaches.selectA (.noted (Move.frameReleasedA s q h marked sponsor stream _ htx).reaches rfl)
  · rename_i i stream htx
    refine Reaches.selectA (.noted (Move.slotEndedA s i (by simp only [State.slotInFlight, htx]; rfl)).reaches ?_)
    rw [completeSlot]
    split <;> rfl

end Sys2Proof.Machine
end

section
/-! SUPPORT. The moves of the receiver events (chapter 7) and of the frame-end event (chapter 5). -/

namespace Sys2Proof.Machine

/-! ### A frame leaves its receiver -/

theorem receivedChain_setReceiver {s : State} {l : Line} {r : Receiver} (h : r.handle = (s.receiver l).handle) :
    (setReceiver l r s).receivedChain l = s.receivedChain l := by
  simp only [State.receivedChain, receiver_setReceiver_same, h]
  rfl

theorem receivedLength_setReceiver {s : State} {l : Line} {r : Receiver} (h : r.handle = (s.receiver l).handle) :
    (setReceiver l r s).receivedLength l = s.receivedLength l := by
  simp only [State.receivedLength, receiver_setReceiver_same, h]
  rfl

/-- R118: what intake releases does not depend on what else its receiver holds. -/
theorem releaseReceiving_setReceiver (h : Option Block) (l : Line) (r : Receiver) (s : State) :
    releaseReceiving h (setReceiver l r s) = setReceiver l r (releaseReceiving h s) := by
  cases h <;> rfl

/-- R118: the frame in progress is released, and its receiver is no longer in it. -/
theorem reaches_dropReceiving {s : State} {l : Line} {r : Receiver} (hr : r.state ≠ .inFrame) (hh : r.handle = none) :
    Reaches s (setReceiver l r (releaseReceiving (s.receiver l).handle s)) := by
  rw [releaseReceiving_eq]
  exact (Move.frameDropped s l r _ hr hh).reaches

/-! ### A data octet (R133 to R136) -/

theorem reaches_reject (l : Line) (why : RejectReason) (s : State) {r : Receiver} (h : r.handle = (s.receiver l).handle) :
    Reaches s (reject l why (setReceiver l r s)) := by
  rw [reject, receiver_setReceiver_same, h, releaseReceiving_setReceiver, setReceiver_setReceiver]
  exact reaches_dropReceiving (by simp) rfl

/-- R133: the octet that is stored, where two octets are held. -/
theorem reaches_stored {l : Line} {x y o : Octet} {zs : List Octet} {s t : State} {h : Block} {r : Receiver}
    (hs : (s.receiver l).state = .inFrame) (hheld : (s.receiver l).held = x :: y :: zs)
    (hr : r = { s.receiver l with escapePending := false, decoded := (s.receiver l).decoded + 1 })
    (hm : (setReceiver l r s).receivedLength l + 1 ≤ s.settings.maxFrameLength)
    (hst : storeOctet l x (setReceiver l r s) = some (h, t)) : Reaches s (releaseHeld l x o (setReceiver l r s)) := by
  rw [releaseHeld_stored hm hst, receiver_setReceiver_same]
  have hhandle : r.handle = (s.receiver l).handle := by rw [hr]
  obtain ⟨claimed, rec, a, hfree, hclaimed, hfirst, hsame, hchain, hlength, ha, ht, hev⟩ := storeOctet_some hst
  rw [receivedLength_setReceiver hhandle] at hclaimed hlength hm
  rw [receiver_setReceiver_same, hhandle] at hfirst hsame
  rw [receivedChain_setReceiver hhandle] at hchain
  have hmove := Move.octetStored s l
    { r with check := checkOctet r.check x, held := r.held.tail ++ [o], handle := some h } h rec claimed t.store.free a x
    t.store.armed hs (by rw [hr]; exact hs) (by rw [hr]) (by rw [hr]; simp [hheld]) (by simp [hheld]) rfl hsame hfirst
    hfree hclaimed hchain hlength (by rw [hlength]; exact hm) ha
  rcases hev with hev | hev
  · refine hmove.reaches.trans (Reaches.of_eq ?_)
    rw [ht, hev]
    simp [setReceiver]
  · refine (hmove.reaches.raise (e := .storeLow)).trans (Reaches.of_eq ?_)
    rw [ht, hev]
    simp [setReceiver, raise]

theorem reaches_takeData {l : Line} {o : Octet} {s : State} (hs : (s.receiver l).state = .inFrame) :
    Reaches s (takeData l o s) := by
  by_cases hshort : (s.receiver l).held.length < 2
  · rw [takeData_short hshort]
    exact (Move.octetHeld s l _ hs (by exact hs) (by rfl) (by simp) hshort (by rfl)).reaches
  · obtain ⟨x, y, zs, hheld⟩ : ∃ x y zs, (s.receiver l).held = x :: y :: zs := by
      match hh : (s.receiver l).held with
      | [] => simp [hh] at hshort
      | [x] => simp [hh] at hshort
      | x :: y :: zs => exact ⟨x, y, zs, rfl⟩
    rw [takeData_long hheld]
    by_cases hm : (setReceiver l { s.receiver l with escapePending := false, decoded := (s.receiver l).decoded + 1 }
        s).receivedLength l + 1 ≤ s.settings.maxFrameLength
    · cases hst : storeOctet l x (setReceiver l
          { s.receiver l with escapePending := false, decoded := (s.receiver l).decoded + 1 } s) with
      | none =>
        rw [releaseHeld_failed hm hst]
        exact reaches_reject l _ s rfl
      | some p =>
        obtain ⟨h, t⟩ := p
        exact reaches_stored hs hheld rfl hm hst
    · rw [releaseHeld_long (by rw [setReceiver_settings]; omega)]
      exact reaches_reject l _ s rfl

/-! ### The end of a frame (R137 to R140, R96 to R99) -/

/-- R99: the outcome of a frame that its receiver has completed. -/
theorem reaches_deliver {s : State} {l : Line} {r : Receiver} {h : Block} (v : Verdict)
    (hhandle : (s.receiver l).handle = some h) (hlength : 3 ≤ (s.record h).length) (hr : r.state ≠ .inFrame)
    (hnone : r.handle = none) : Reaches s (deliver h v (setReceiver l r s)) := by
  have hrelease : Reaches s (releaseFrame h (setReceiver l r s)) := by
    have hdrop := reaches_dropReceiving (s := s) (l := l) hr hnone
    rw [hhandle, ← releaseReceiving_setReceiver] at hdrop
    exact hdrop
  cases v with
  | discard => exact hrelease
  | forward q =>
    rw [deliver]
    by_cases hq : ((setReceiver l r s).queue q).count < ((setReceiver l r s).queue q).limit
    · rw [join_below hq]
      exact .noted (Move.frameJoined s l r h q hhandle hlength hr hnone).reaches rfl
    · rw [join_at_limit hq]
      exact .raise (hrelease.noted rfl)

/-- R96 to R99: the classification of a frame that its receiver has completed. -/
theorem reaches_classify {s : State} {l : Line} {r : Receiver} {h : Block} (os : List Octet)
    (hhandle : (s.receiver l).handle = some h) (hlength : 3 ≤ (s.record h).length) (hr : r.state ≠ .inFrame)
    (hnone : r.handle = none) : Reaches s (classify l h os (setReceiver l r s)) := by
  have hnoted : Reaches s (bump (hitCounter l (s.classifier.decide l os))
      (setRecord h { s.record h with matched := s.classifier.decide l os } s)) :=
    .noted (Move.recordNoted s h _ (by rfl) (by rfl)).reaches rfl
  refine hnoted.trans (reaches_deliver (l := l) (r := r) _ hhandle ?_ hr hnone)
  simpa [bump, bumpBy, State.record, setRecord] using hlength

/-- R138: the frame-end event of a completed frame. -/
theorem reaches_completeFrame {s : State} {l : Line} {h : Block} (hs : (s.receiver l).state = .inFrame)
    (hhandle : (s.receiver l).handle = some h) (hdecoded : 5 ≤ (s.receiver l).decoded) :
    Reaches s (completeFrame l h ((s.receiver l).decoded - 2) (setReceiver l (s.receiver l).atDelimiter s)) := by
  have hcompleted : Reaches s (bump (.line l .goodFrames) (completeRecord h ((s.receiver l).decoded - 2) s)) :=
    .noted (Move.frameCompleted s l h _ hs hhandle hdecoded (by rfl) (by rfl)).reaches rfl
  have hlength : 3 ≤ ((bump (.line l .goodFrames) (completeRecord h ((s.receiver l).decoded - 2) s)).record h).length := by
    simp only [completeRecord, bump, bumpBy, State.record, setRecord, table_set_get_same]
    omega
  rw [completeFrame, frameEnd]
  split
  · refine Relation.ReflTransGen.trans ?_ (reaches_takePayload ..)
    exact hcompleted.trans (reaches_deliver (l := l) .discard hhandle hlength (by simp [Receiver.atDelimiter]) rfl)
  · exact hcompleted.trans (reaches_classify (l := l) _ hhandle hlength (by simp [Receiver.atDelimiter]) rfl)

theorem reaches_closeFrame {s : State} {l : Line} (hs : (s.receiver l).state = .inFrame) :
    Reaches s (closeFrame l s) := by
  have hdrop : Reaches s (releaseReceiving (s.receiver l).handle (setReceiver l (s.receiver l).atDelimiter s)) := by
    rw [releaseReceiving_setReceiver]
    exact reaches_dropReceiving (by simp [Receiver.atDelimiter]) rfl
  rw [closeFrame]
  split
  · exact hdrop.noted rfl
  · split
    · split
      · rename_i hh
        rw [hh] at hdrop
        exact hdrop
      · exact reaches_completeFrame hs ‹_› (by omega)
    · exact .raise (hdrop.noted rfl)

theorem reaches_abandonFrame (l : Line) (s : State) : Reaches s (abandonFrame l s) := by
  have hdrop : Reaches s (releaseReceiving (s.receiver l).handle (setReceiver l (s.receiver l).atDelimiter s)) := by
    rw [releaseReceiving_setReceiver]
    exact reaches_dropReceiving (by simp [Receiver.atDelimiter]) rfl
  exact .raise (hdrop.noted rfl)

theorem reaches_takeInFrame {l : Line} {o : Octet} {s : State} (hs : (s.receiver l).state = .inFrame) :
    Reaches s (takeInFrame l o s) := by
  rw [takeInFrame]
  split
  · split
    · exact reaches_abandonFrame l s
    · exact reaches_takeData hs
  · split
    · exact reaches_closeFrame hs
    · split
      · exact (Move.receiverNoted s l _ (by rfl) (by rfl) (by rfl) (by rfl)).reaches
      · exact reaches_takeData hs

/-! ### The receiver events -/

theorem reaches_alignedOctet {l : Line} {o : Octet} {s : State} {take : Octet → State → State}
    (h : ∀ u, (u.receiver l).state = (s.receiver l).state → Reaches u (take o u)) :
    Reaches s (alignedOctet l o take s) := by
  rw [alignedOctet_eq]
  exact (Move.receiverNoted s l _ (by rfl) (by rfl) (by rfl) (by rfl)).reaches.trans
    (h _ (by rw [receiver_setReceiver_same]))

theorem reaches_hunting {l : Line} {bits : List Bool} {s : State} {found : State → State}
    (h : ∀ u, (u.receiver l).state = (s.receiver l).state → Reaches u (found u)) :
    Reaches s (hunting l bits found s) := by
  have hnoted : ∀ w, Reaches s (setReceiver l { s.receiver l with recent := w } s) := fun w =>
    (Move.receiverNoted s l _ (by rfl) (by rfl) (by rfl) (by rfl)).reaches
  rw [hunting]
  split
  · exact (hnoted _).trans (h _ (by rw [receiver_setReceiver_same]))
  · exact hnoted _

theorem reaches_inState {st : RxState} {l : Line} {f : State → State} {s : State}
    (h : (s.receiver l).state = st → Reaches s (f s)) : Reaches s (inState st l f s) := by
  rw [inState]
  split
  · exact h ‹_›
  · exact .refl

theorem reaches_leaveSeeking {l : Line} {s : State} (hs : (s.receiver l).state = .seeking) :
    Reaches s (leaveSeeking l s) :=
  (Move.receiverIdle s l _ (by simp [hs]) (by simp) (.inr (by rfl))).reaches

theorem reaches_beginFrame {l : Line} (escape : Bool) {s : State} (hs : (s.receiver l).state = .between) :
    Reaches s (beginFrame l escape s) :=
  (Move.frameBegun s l _ (by simp [hs]) (by rfl) (by rfl) (by rfl) (by rfl)).reaches

theorem reaches_takeBetween {l : Line} {o : Octet} {s : State} (hs : (s.receiver l).state = .between) :
    Reaches s (takeBetween l o s) := by
  rw [takeBetween]
  split
  · exact .refl
  · split
    · exact reaches_beginFrame true hs
    · exact (reaches_beginFrame false hs).trans (reaches_takeData (by rw [beginFrame, receiver_setReceiver_same]))

theorem reaches_countRejected (l : Line) (s : State) :
    Reaches s (countRejected l s) ∧ (countRejected l s).receiver l = s.receiver l := by
  rw [countRejected]
  split
  · exact ⟨.refl, rfl⟩
  · exact ⟨.raise (.noted .refl rfl), rfl⟩
  · exact ⟨.raise (.noted .refl rfl), rfl⟩

theorem reaches_leaveDiscarding {l : Line} {s : State} (hs : (s.receiver l).state = .discarding) :
    Reaches s (leaveDiscarding l s) := by
  rw [leaveDiscarding]
  split
  · exact (Move.receiverIdle s l _ (by simp [hs]) (by simp [Receiver.atDelimiter]) (.inl rfl)).reaches
  · obtain ⟨hcounted, hkept⟩ := reaches_countRejected l s
    exact hcounted.tail (Move.receiverIdle _ l _ (by simp [hkept, hs]) (by simp [Receiver.atDelimiter]) (.inl rfl))

end Sys2Proof.Machine
end

section
/-! SUPPORT. The moves of the clock, notice and reset events, and the moves of every command (R47 to R61, R195, R197,
R163 to R165). -/

namespace Sys2Proof.Machine

/-! ### Clocks (R48 to R51) -/

theorem reaches_windowsBoundary (c : Calendar) (s : State) : Reaches s (windowsBoundary c s) := by
  rw [windowsBoundary]
  split
  · exact .raiseTimes (.raiseTimes (Move.windowsBoundary s c ‹_›).reaches)
  · exact .refl

theorem reaches_takeSecondStep (s : State) : Reaches s (takeSecondStep s) := by
  rw [takeSecondStep]
  split
  · exact (Move.ticked s).reaches.trans (reaches_windowsBoundary ..)
  · exact (Move.ticked s).reaches

theorem reaches_takeOscillatorStop (s : State) : Reaches s (takeOscillatorStop s) := by
  rw [takeOscillatorStop]
  split
  · exact Reaches.raiseTimes ((Move.clockStoppedWindowsClosed s).reaches.raise (e := .clockStopped))
  · exact (Move.clockStopped s ‹_›).reaches

theorem takeSecondStep_runsOn (s : State) (n : Nat) :
    takeSecondStep { s with tk := { s.tk with divider := n } } = takeSecondStep s := rfl

theorem reaches_takeCrystalReturn (s : State) : Reaches s (takeCrystalReturn s) := by
  rw [takeCrystalReturn]
  split
  · exact (Move.crystalRuns s).reaches.trans (reaches_takeSecondStep _)
  · exact (Move.crystalRuns s).reaches.tail (Move.divided _ (s.tk.divider + 1) (by omega))

/-! ### Uptime and aging (R11, R57) -/

theorem permute_perm {α : Type} (code : Nat) (xs : List α) : (permute code xs).Perm xs := by
  induction xs generalizing code with
  | nil => exact .refl _
  | cons x xs ih =>
    have hlen : (permute (code / (xs.length + 1)) xs).length = xs.length := (ih _).length_eq
    refine (List.perm_insertIdx x _ ?_).trans ((ih _).cons x)
    rw [hlen]
    exact Nat.lt_succ_iff.mp (Nat.mod_lt _ (Nat.succ_pos _))

/-- R19: the age drops are counted and nothing else is changed. -/
theorem countAgeDrops_frame (s : State) (qs : List QueueIx) (t : State) :
    countAgeDrops s qs t = { t with counters := (countAgeDrops s qs t).counters } := by
  induction qs generalizing t with
  | nil => rfl
  | cons q qs ih => exact ih (bumpBy (.queue q .ageDrops) (s.agedOut q).length t)

/-- R11: the frames an aging pass drops are the first of their queue. -/
theorem agedOut_eq_take (stampOf : Block → Word32) (now : Word32) (x : Queue) :
    x.agedOut stampOf now = x.frames.take (x.agedOut stampOf now).length := by
  rw [Queue.agedOut]
  split
  · rfl
  · exact List.prefix_iff_eq_take.mp (List.takeWhile_prefix _)

/-- R11, R120: an aging pass, as one change of store, queues and counters before its raises. -/
theorem agingPass_eq (s : State) :
    agingPass s = raiseTimes .ageDrop ((List.finRange 8).flatMap s.agedOut).length
      { s with
        store := { s.store with
                   free := (releaseFrames (s.agingQueues.flatMap s.agedOut) s).store.free
                   armed := (releaseFrames (s.agingQueues.flatMap s.agedOut) s).store.armed }
        queues := mapTable (fun _ x => x.aged s.stampOf s.uptime) s.queues
        draws := s.draws + 1
        counters := (countAgeDrops s (List.finRange 8) s).counters } := by
  have hcounted := countAgeDrops_frame s (List.finRange 8) s
  have hstore : (releaseFrames (s.agingQueues.flatMap s.agedOut) s).store = _ :=
    congrArg State.store (releaseFrames_frame (s.agingQueues.flatMap s.agedOut) s)
  rw [agingPass, hstore]
  generalize countAgeDrops s (List.finRange 8) s = counted at hcounted
  generalize hcs : counted.counters = cs at hcounted
  subst hcounted
  rfl

theorem reaches_agingPass (s : State) : Reaches s (agingPass s) := by
  rw [agingPass_eq]
  refine Reaches.raiseTimes ?_
  have hfree : (releaseFrames (s.agingQueues.flatMap s.agedOut) s).store.free =
      s.store.free ++ (s.agingQueues.flatMap fun q => (s.queue q).frames.take (s.agedOut q).length).flatMap
        fun h => (s.record h).chain := by
    rw [releaseFrames_free]
    congr 2
    exact List.flatMap_congr fun q _ => agedOut_eq_take ..
  refine Reaches.noted (Move.framesReleased s (fun q => (s.agedOut q).length) s.agingQueues
    (mapTable (fun _ x => x.aged s.stampOf s.uptime) s.queues) _
    (releaseFrames (s.agingQueues.flatMap s.agedOut) s).store.armed (permute_perm _ _) (fun q => ?_) (fun q => ?_)
    hfree).reaches rfl
  · rw [mapTable_get_fin]
    rfl
  · rw [mapTable_get_fin]
    exact le_refl _

theorem reaches_takeUptimeSecond (s : State) : Reaches s (takeUptimeSecond s) :=
  (Reaches.noted (Move.repeatCounted s).reaches rfl).trans (reaches_agingPass _)

/-! ### Notices (R195, R197) -/

theorem reaches_repeatExpiry (s : State) :
    Reaches s (if s.events.repeatExpired then { s with events := s.events.owe } else s) := by
  split
  · exact (Move.repeatExpired s ‹_›).reaches
  · exact .refl

theorem noticeSlot_eq_some {s : State} {l : Line} {i : SlotIx} (h : s.noticeSlot = some (l, i)) :
    s.events.notice.state = .owed ∧ s.managed = true ∧ s.settings.noticeLine = some l ∧
      (s.agent l).firstFree = some i := by
  rw [State.noticeSlot] at h
  split at h
  · rename_i howed
    split at h
    · cases h
    · rename_i l' hl'
      simp only [Option.map_eq_some_iff, Prod.mk.injEq] at h
      obtain ⟨j, hj, rfl, rfl⟩ := h
      exact ⟨howed.1, howed.2, hl', hj⟩
  · cases h

theorem reaches_buildNotice (s : State) : Reaches s (buildNotice s) := by
  rw [buildNotice]
  split
  · exact .refl
  · rename_i l i hslot
    obtain ⟨howed, -, -, hfree⟩ := noticeSlot_eq_some hslot
    exact (Move.slotPlaced s l i _ (firstFree_free hfree)).reaches.tail (Move.noticeReported _ howed)

/-! ### Restarts, resets and supplies -/

theorem reaches_expireDeadline (s : State) : Reaches s (expireDeadline s) := by
  rw [expireDeadline]
  split
  · rename_i hr
    rw [← hr]
  · exact (Move.restartDue s _ _ _ _ ‹_›).reaches
  · rename_i hr
    rw [← hr]

theorem reaches_performRestart (strap : Octet) (s : State) : Reaches s (performRestart strap s) := by
  rw [performRestart]
  split
  · exact .refl
  · exact .refl
  · exact (Move.trafficRestarted s).reaches
  · exact (Move.coreReset s strap).reaches

theorem reaches_timekeepingStart (s : State) : Reaches s (timekeepingStart s) :=
  (Move.timekeepingStarted s .none (by simp)).reaches

theorem reaches_vbakStart (s : State) : Reaches s (vbakStart s) := by
  rw [vbakStart]
  split
  · exact (Move.timekeepingStarted s .backup (by simp)).reaches
  · exact .refl

theorem reaches_ifReset (s : State) : Reaches s (if s.supply = .none then timekeepingStart s else s) := by
  split
  · exact reaches_timekeepingStart s
  · exact .refl

/-! ### Every command -/

/-- A command of the core domain. -/
theorem inCore_eq (f : State → State) (s : State) : inCore f s = .next (if s.supply = .main then f s else s) := rfl

/-- The command answers a next state, which moves lead to. -/
def Answering (s : State) (o : Host.Outcome State Fault Refusal) : Prop := ∃ t, o = .next t ∧ Reaches s t

theorem answering_next {s t : State} (h : Reaches s t) : Answering s (.next t) := ⟨t, rfl, h⟩

theorem answering_ite {c : Prop} [Decidable c] {s t : State} (h : c → Reaches s t) :
    Answering s (.next (if c then t else s)) := by
  refine answering_next ?_
  split
  · exact h ‹_›
  · exact .refl

theorem answering_inCore {f : State → State} {s u : State} (hu : Reaches s u) (h : Reaches u (f u)) :
    Answering s (inCore f u) := by
  obtain ⟨t, ht, hr⟩ := answering_ite (c := u.supply = .main) fun _ => h
  exact ⟨t, ht, hu.trans hr⟩

theorem answering_request (r : Request) (s : State) : Answering s (requestCommand (runOf r.code) r s) := by
  refine answering_inCore .refl ?_
  split
  · exact reaches_takeRequest r s
  · exact .refl

theorem answering_grant (g : Bool) {f : State → State} {s : State} (h : ∀ u, Reaches u (f u)) :
    Answering s (inCore f { s with grant := g }) :=
  answering_inCore (.noted .refl rfl) (h _)

/-- No command faults or is refused, and each is made of moves (log 1). -/
theorem exec_answering (c : Instr) (s : State) : Answering s (exec c s) := by
  cases c with
  | huntDelimiter hunted =>
    exact answering_inCore .refl (reaches_inState fun hs =>
      reaches_hunting fun u hu => reaches_leaveSeeking (hu.trans hs))
  | betweenOctet l o =>
    exact answering_inCore .refl (reaches_inState fun hs =>
      reaches_alignedOctet fun u hu => reaches_takeBetween (hu.trans hs))
  | dataOctet l o =>
    exact answering_inCore .refl (reaches_inState fun hs =>
      reaches_alignedOctet fun u hu => reaches_takeInFrame (hu.trans hs))
  | closingDelimiter l =>
    exact answering_inCore .refl (reaches_inState fun hs =>
      reaches_alignedOctet fun u hu => reaches_takeInFrame (hu.trans hs))
  | cancelMarker l =>
    exact answering_inCore .refl (reaches_inState fun _ =>
      (Move.receiverNoted s l _ (by rfl) (by rfl) (by rfl) (by rfl)).reaches.trans (reaches_abandonFrame l _))
  | discardingDelimiter l bits =>
    exact answering_inCore .refl (reaches_inState fun hs =>
      reaches_hunting fun u hu => reaches_leaveDiscarding (hu.trans hs))
  | escape l =>
    exact answering_inCore .refl (reaches_inState fun hs =>
      reaches_alignedOctet fun u hu => reaches_takeInFrame (hu.trans hs))
  | identify l src seq ps => exact answering_request ⟨l, src, seq, 0x01, ps⟩ s
  | readSettings l src seq ps => exact answering_request ⟨l, src, seq, 0x02, ps⟩ s
  | writeSettings l src seq ps => exact answering_request ⟨l, src, seq, 0x03, ps⟩ s
  | setRemoteAccess l src seq ps => exact answering_request ⟨l, src, seq, 0x04, ps⟩ s
  | readTime l src seq ps => exact answering_request ⟨l, src, seq, 0x10, ps⟩ s
  | setTime l src seq ps => exact answering_request ⟨l, src, seq, 0x11, ps⟩ s
  | readRule l src seq ps => exact answering_request ⟨l, src, seq, 0x20, ps⟩ s
  | readBankState l src seq ps => exact answering_request ⟨l, src, seq, 0x21, ps⟩ s
  | writeRule l src seq ps => exact answering_request ⟨l, src, seq, 0x22, ps⟩ s
  | clearStandby l src seq ps => exact answering_request ⟨l, src, seq, 0x23, ps⟩ s
  | activate l src seq ps => exact answering_request ⟨l, src, seq, 0x24, ps⟩ s
  | readQueue l src seq ps => exact answering_request ⟨l, src, seq, 0x30, ps⟩ s
  | writeQueue l src seq ps => exact answering_request ⟨l, src, seq, 0x31, ps⟩ s
  | freezeQueue l src seq ps => exact answering_request ⟨l, src, seq, 0x32, ps⟩ s
  | resumeQueue l src seq ps => exact answering_request ⟨l, src, seq, 0x33, ps⟩ s
  | flushQueue l src seq ps => exact answering_request ⟨l, src, seq, 0x34, ps⟩ s
  | releaseQueue l src seq ps => exact answering_request ⟨l, src, seq, 0x35, ps⟩ s
  | readWindow l src seq ps => exact answering_request ⟨l, src, seq, 0x40, ps⟩ s
  | readWindowState l src seq ps => exact answering_request ⟨l, src, seq, 0x41, ps⟩ s
  | writeWindow l src seq ps => exact answering_request ⟨l, src, seq, 0x42, ps⟩ s
  | stopTrunk l src seq ps => exact answering_request ⟨l, src, seq, 0x50, ps⟩ s
  | restartTrunk l src seq ps => exact answering_request ⟨l, src, seq, 0x51, ps⟩ s
  | readEvents l src seq ps => exact answering_request ⟨l, src, seq, 0x60, ps⟩ s
  | ackEvents l src seq ps => exact answering_request ⟨l, src, seq, 0x61, ps⟩ s
  | writeEventMask l src seq ps => exact answering_request ⟨l, src, seq, 0x62, ps⟩ s
  | readCounters l src seq ps => exact answering_request ⟨l, src, seq, 0x63, ps⟩ s
  | restart l src seq ps => exact answering_request ⟨l, src, seq, 0x70, ps⟩ s
  | unknownRequestCode l src seq code ps => exact answering_request ⟨l, src, seq, code, ps⟩ s
  | selectionB =>
    refine answering_inCore .refl ?_
    split
    · exact reaches_selectB ‹_›
    · exact .refl
  | selectionA =>
    refine answering_inCore .refl ?_
    split
    · rename_i hidle
      exact Reaches.selectA (.of_eq (by rw [← hidle]))
    · exact .refl
  | grantPresent => exact answering_grant true reaches_takeGrant
  | grantTimeout => exact answering_inCore .refl (reaches_timeOutGrant s)
  | grantLoss => exact answering_grant false reaches_loseGrant
  | holdoffExpiry => exact answering_inCore .refl (reaches_endHoldoff s)
  | completionBFrame chargeFirst => exact answering_inCore .refl (reaches_endFrameB chargeFirst s)
  | completionBSlot => exact answering_inCore .refl (reaches_endSlotB s)
  | completionA => exact answering_inCore .refl (reaches_endA s)
  | charge => exact answering_inCore .refl (reaches_takeCharge s)
  | secondStep => exact answering_ite fun _ => reaches_takeSecondStep s
  | minuteBoundary => exact answering_ite fun _ => reaches_takeSecondStep s
  | oscillatorStop => exact answering_ite fun _ => reaches_takeOscillatorStop s
  | crystalReturn => exact answering_ite fun _ => reaches_takeCrystalReturn s
  | uptimeSecond => exact answering_inCore .refl (reaches_takeUptimeSecond s)
  | noticeRepeatExpiry => exact answering_inCore .refl (reaches_repeatExpiry s)
  | noticeBuild => exact answering_inCore .refl (reaches_buildNotice s)
  | restartDeadlineExpiry => exact answering_inCore .refl (reaches_expireDeadline s)
  | restartPerformance strap => exact answering_inCore .refl (reaches_performRestart strap s)
  | coreReset strap => exact answering_next ((reaches_ifReset s).tail (Move.coreReset _ strap))
  | powerOnWithTimeLoss strap =>
    cases strap with
    | none => exact answering_next (reaches_vbakStart s)
    | some strap => exact answering_next ((reaches_timekeepingStart s).tail (Move.coreReset _ strap))
  | mainSupplyLoss => exact answering_ite fun _ => (Move.supplyLost s .backup (by simp)).reaches
  | vbakLoss => exact answering_ite fun _ => (Move.supplyLost s .none (by simp)).reaches

end Sys2Proof.Machine
end

section
/-! SUPPORT and CERTIFICATE. What every step keeps, proved over the moves of Sys2Proof's commands: the waiting commands, the
release marks, the windows, the clock, the settings, the timers, the memory and the notice unit. -/

namespace Sys2Proof.Machine

/-! ### Steps as moves -/

theorem cancelA_frame (s : State) :
    cancelA s = { s with sent := (cancelA s).sent, draws := (cancelA s).draws } := by
  rw [cancelA]
  split <;> rfl

theorem cancelB_frame (s : State) :
    cancelB s = { s with sent := (cancelB s).sent, draws := (cancelB s).draws } := by
  rw [cancelB]
  split <;> rfl

/-- R86, R87: cancel markers change nothing but what the lines carried. -/
theorem cancel_frame (s : State) :
    cancelB (cancelA s) =
      { s with sent := (cancelB (cancelA s)).sent, draws := (cancelB (cancelA s)).draws } := by
  refine (cancelB_frame (cancelA s)).trans ?_
  generalize cancelB (cancelA s) = v
  rw [cancelA_frame]

/-- R164: a traffic restart, as one change of the records it writes. -/
theorem trafficRestart_frame (s : State) :
    trafficRestart s =
      { s with
        rx := ⟨Receiver.seeking, Receiver.seeking⟩
        store := Store.rebuilt s.store.mem
        queues := mapTable (fun _ x => { x with frames := [], frozen := false, mark := 0 }) s.queues
        txA := .idle
        txB := .idle
        trunkMode := .running
        mgmt := ⟨s.mgmt.a.trafficRestart, s.mgmt.b.trafficRestart⟩
        restart := .normal
        sent := (cancelB (cancelA s)).sent
        draws := (cancelB (cancelA s)).draws } := by
  rw [trafficRestart, cancel_frame]

theorem Move.pending_eq {s t : State} (h : Move s t) : t.pending = s.pending := by
  cases h with
  | trafficRestarted => rw [trafficRestart_frame]
  | _ => rfl

theorem Reaches.pending_eq {s t : State} (h : Reaches s t) : t.pending = s.pending :=
  h.keeps (P := fun u => u.pending = s.pending) (fun hm hp => hm.pending_eq.trans hp) rfl

/-- Settles O2: every command answers with the state that its moves lead to, and no move touches the waiting commands. -/
theorem everyCommandAnswersNextState : Obligations.EveryCommandAnswersNextState := by
  intro c s
  obtain ⟨t, ht, hr⟩ := exec_answering c s
  exact ⟨t, ht, hr.pending_eq⟩

/-- A step is made of moves, from the state without the command it takes. -/
theorem step_reaches {s t : State} (h : step s = .next t) : ∃ cs, Reaches { s with pending := cs } t := by
  rw [step] at h
  split at h
  · cases h
    exact ⟨s.pending, .refl⟩
  · rename_i c rest _
    obtain ⟨u, hu, hr⟩ := exec_answering c { s with pending := rest }
    obtain rfl : u = t := by simpa [hu] using h
    exact ⟨rest, hr⟩

/-- What every move keeps, and the waiting commands have no part in, every step keeps. -/
theorem step_keeps {P : State → Prop} (hpending : ∀ {s} cs, P s → P { s with pending := cs })
    (hmove : ∀ {s t}, Move s t → P s → P t) {s t : State} (hs : P s) (h : step s = .next t) : P t := by
  obtain ⟨cs, hr⟩ := step_reaches h
  exact hr.keeps hmove (hpending cs hs)

/-! ### The release marks (R9) -/

theorem MarksSafe.congr {s t : State} (h : MarksSafe s) (hq : t.queues = s.queues)
    (htx : ∀ q, t.txB.markedSource = some q → isScheduled q = true) : MarksSafe t := by
  have hqueue : ∀ q, t.queue q = s.queue q := fun q => by rw [State.queue, hq]; rfl
  exact ⟨fun q => hqueue q ▸ h.bounded q, fun q hun => hqueue q ▸ h.unmarked q hun, htx⟩

/-- R9: one queue record written. -/
theorem MarksSafe.of_setQueue {s t : State} {q : QueueIx} {x : Queue} (h : MarksSafe s) (hle : x.mark ≤ x.count)
    (hun : isScheduled q = false → x.mark = 0) (hq : t.queues = (setQueue q x s).queues)
    (htx : ∀ p, t.txB.markedSource = some p → isScheduled p = true) : MarksSafe t := by
  refine MarksSafe.congr (s := setQueue q x s) ⟨fun p => ?_, fun p hp => ?_, h.inFlight⟩ hq htx
  · rw [queue_setQueue]
    split
    · exact hle
    · exact h.bounded p
  · rw [queue_setQueue]
    split
    · exact hun (‹p = q› ▸ hp)
    · exact h.unmarked p hp

/-- R9: no queue has a mark. -/
theorem MarksSafe.of_unmarked {t : State} (h : ∀ q, (t.queue q).mark = 0) (htx : t.txB = .idle) : MarksSafe t :=
  ⟨fun q => by simp [h], fun q _ => h q, fun q hq => by simp [htx, TxB.markedSource] at hq⟩

/-- R9: only a queue of S1 to S6 has a mark. -/
theorem MarksSafe.scheduled {s : State} (h : MarksSafe s) {q : QueueIx} (hq : 0 < (s.queue q).mark) :
    isScheduled q = true := by
  by_contra hn
  rw [h.unmarked q (by simpa using hn)] at hq
  exact absurd hq (lt_irrefl 0)

theorem coreReset_queue (strap : Octet) (s : State) (q : QueueIx) : (coreReset strap s).queue q = Queue.blank q :=
  tabulate_get_fin ..

theorem trafficRestart_queue (s : State) (q : QueueIx) :
    (trafficRestart s).queue q = { s.queue q with frames := [], frozen := false, mark := 0 } := by
  rw [trafficRestart_frame]
  exact mapTable_get_fin ..

theorem Move.keeps_marks {s t : State} (hm : Move s t) (h : MarksSafe s) : MarksSafe t := by
  have hidle : ∀ q, TxB.idle.markedSource = some q → isScheduled q = true := fun q hq => by simp [TxB.markedSource] at hq
  cases hm with
  | coreReset strap => exact .of_unmarked (fun q => by rw [coreReset_queue]; rfl) rfl
  | trafficRestarted => exact .of_unmarked (fun q => by rw [trafficRestart_queue]) (by rw [trafficRestart_frame])
  | frameJoined l r k q =>
    refine h.of_setQueue (q := q) ?_ (fun hun => by exact h.unmarked q hun) rfl h.inFlight
    have := h.bounded q
    simp only [Queue.count, List.length_append] at this ⊢
    omega
  | queueWritten q x hframes hmark =>
    rcases hmark with hmark | ⟨hq, hmark⟩
    · refine h.of_setQueue (q := q) ?_ (fun hun => by exact hmark.trans (h.unmarked q hun)) rfl h.inFlight
      rw [hmark, Queue.count, hframes]
      exact h.bounded q
    · exact h.of_setQueue (q := q) hmark.le (fun hun => by simp [hq] at hun) rfl h.inFlight
  | framesReleased n order queues free armed horder hframes hmark =>
    refine ⟨fun q => ?_, fun q hun => ?_, h.inFlight⟩
    · have hlen : queues[q].count = (s.queue q).count - n q := by simp only [Queue.count, hframes, List.length_drop]
      have := h.bounded q
      have := hmark q
      simp only [State.queue] at *
      omega
    · have := h.unmarked q hun
      have := hmark q
      simp only [State.queue] at *
      omega
  | frameDepartedA q k marked sponsor os =>
    exact h.of_setQueue (q := q) (departed_mark_le (h.bounded q))
      (fun hun => by simp [Queue.departed, h.unmarked q hun]) rfl h.inFlight
  | frameDepartedB q k sponsor tx _ _ htx =>
    refine h.of_setQueue (q := q) (departed_mark_le (h.bounded q))
      (fun hun => by simp [Queue.departed, h.unmarked q hun]) rfl fun p hp => ?_
    have hmarked : (if decide (0 < (s.queue q).mark) = true then some q else none) = some p := by
      rcases htx with rfl | ⟨os, rfl⟩ <;> exact hp
    split at hmarked
    · obtain rfl := Option.some.inj hmarked
      exact h.scheduled (by simpa using ‹decide (0 < (s.queue q).mark) = true›)
    · cases hmarked
  | transmitterBStepped tx htx =>
    refine h.congr rfl fun q hq => ?_
    rcases htx with ⟨f, hf, os, rfl⟩ | ⟨-, -, rfl | rfl⟩
    · exact h.inFlight q (by rw [hf]; exact hq)
    · exact hidle q hq
    · exact hidle q hq
  | frameReturned q k marked _ hmarked =>
    have := h.bounded q
    refine h.of_setQueue (q := q) ?_ (fun hun => ?_) rfl hidle
    · simp only [Queue.count, List.length_cons] at *
      split <;> omega
    · cases marked with
      | false => exact h.unmarked q hun
      | true => simp [h.inFlight q (hmarked rfl)] at hun
  | slotSelectedB i tx _ _ htx =>
    refine h.congr rfl fun q hq => ?_
    rcases htx with rfl | ⟨os, rfl⟩ <;> simp [TxB.markedSource, InFlight.markedSource] at hq
  | frameReleasedB k armed htx => exact h.congr rfl hidle
  | slotEndedB i n => exact h.congr rfl hidle
  | slotReturnedB i n => exact h.congr rfl hidle
  | _ => exact h.congr rfl h.inFlight

/-- Settles O10: every move keeps the marks. -/
theorem stepKeepsReleaseMarks : Obligations.StepKeepsReleaseMarks :=
  fun _ _ => step_keeps (fun _ h => ⟨h.bounded, h.unmarked, h.inFlight⟩) fun hm h => hm.keeps_marks h

end Sys2Proof.Machine
end

section
/-! SUPPORT and CERTIFICATE. The calendar (R47, R48): its fields as propositions, and what a second step makes of the count of
seconds. -/

namespace Sys2Proof.Machine

/-- R47, R53: the check of a calendar's fields as a proposition. -/
theorem Calendar.valid_iff_daysIn (c : Calendar) :
    c.valid = true ↔ c.second ≤ 59 ∧ c.minute ≤ 59 ∧ c.hour ≤ 23 ∧ c.weekday ≤ 6 ∧ 1 ≤ c.month ∧ c.month ≤ 12 ∧
      c.year ≤ 99 ∧ 1 ≤ c.day ∧ c.day ≤ daysIn c.month c.year := by
  simp [valid, and_assoc]

/-- R48: every month has a first day. -/
theorem one_le_daysIn (month year : Nat) : 1 ≤ daysIn month year := by
  unfold daysIn
  split_ifs <;> decide

theorem daysIn_december (year : Nat) : daysIn 12 year = 31 := rfl

/-! ### Days counted (R48) -/

theorem daysBeforeYear_succ (year : Nat) :
    daysBeforeYear (year + 1) = daysBeforeYear year + if year % 4 = 0 then 366 else 365 := by
  unfold daysBeforeYear
  split <;> omega

theorem daysBeforeMonth_succ {month : Nat} (year : Nat) (h : 1 ≤ month) :
    daysBeforeMonth (month + 1) year = daysBeforeMonth month year + daysIn month year := by
  obtain ⟨m, rfl⟩ : ∃ m, month = m + 1 := ⟨month - 1, by omega⟩
  simp [daysBeforeMonth, List.range_succ]

theorem daysBeforeMonth_first (year : Nat) : daysBeforeMonth 1 year = 0 := rfl

theorem daysIn_february (year : Nat) : daysIn 2 year = if year % 4 = 0 then 29 else 28 := rfl

/-- The days of a year before and in its last month. -/
theorem daysBeforeMonth_december (year : Nat) :
    daysBeforeMonth 12 year + 31 = if year % 4 = 0 then 366 else 365 := by
  have hsum : daysBeforeMonth 12 year = 31 + daysIn 2 year + 275 := by
    simp [daysBeforeMonth, List.range_succ, daysIn]
    omega
  rw [hsum, daysIn_february]
  split <;> rfl

/-- The days of a year up to the end of a month are at most the days of the year. -/
theorem daysThroughMonth_le {month : Nat} (year : Nat) (h1 : 1 ≤ month) (h12 : month ≤ 12) :
    daysBeforeMonth month year + daysIn month year ≤ if year % 4 = 0 then 366 else 365 := by
  rcases h12.eq_or_lt with rfl | hlt
  · exact (daysBeforeMonth_december year).le
  · interval_cases month
    all_goals
      simp [daysBeforeMonth, List.range_succ, daysIn]
      split <;> omega

/-- The years up to the end of a year number at most as many days as those up to the end of a later one. -/
theorem daysBeforeYear_mono {a b : Nat} (h : a ≤ b) : daysBeforeYear a ≤ daysBeforeYear b := by
  unfold daysBeforeYear
  omega

/-- R47: a date of the calendar is one of its 36525 days. -/
theorem Calendar.dayNumber_lt {c : Calendar} (h : c.valid = true) : c.dayNumber < 36525 := by
  obtain ⟨-, -, -, -, hm1, hm12, hy, hd1, hd⟩ := c.valid_iff_daysIn.mp h
  have hmonth := daysThroughMonth_le c.year hm1 hm12
  have hyear : daysBeforeYear (c.year + 1) ≤ daysBeforeYear 100 := daysBeforeYear_mono (by omega)
  rw [daysBeforeYear_succ] at hyear
  have hcentury : daysBeforeYear 100 = 36525 := rfl
  unfold dayNumber
  omega

/-! ### A day change (R48) -/

theorem Calendar.nextDay_valid {c : Calendar} (h : c.valid = true) : c.nextDay.valid = true := by
  obtain ⟨hs, hmi, hh, hw, hm1, hm12, hy, hd1, hd⟩ := c.valid_iff_daysIn.mp h
  have hfirst := one_le_daysIn
  have hweekday : (if c.weekday + 1 < 7 then c.weekday + 1 else 0) ≤ 6 := by split <;> omega
  rw [valid_iff_daysIn, nextDay]
  split
  · exact ⟨hs, hmi, hh, hweekday, hm1, hm12, hy, by simp, by assumption⟩
  · split
    · exact ⟨hs, hmi, hh, hweekday, by simp, by simp; omega, hy, le_refl 1, hfirst ..⟩
    · refine ⟨hs, hmi, hh, hweekday, le_refl 1, by simp, ?_, le_refl 1, hfirst ..⟩
      simp only
      split <;> omega

/-- R48: the date goes one day on, modulo the days of the calendar. -/
theorem Calendar.nextDay_dayNumber {c : Calendar} (h : c.valid = true) :
    c.nextDay.dayNumber = (c.dayNumber + 1) % 36525 := by
  have hlt := dayNumber_lt h
  have hnext := dayNumber_lt (nextDay_valid h)
  obtain ⟨-, -, -, -, hm1, hm12, hy, hd1, hd⟩ := c.valid_iff_daysIn.mp h
  suffices hday : c.nextDay.dayNumber = c.dayNumber + 1 ∨ (c.nextDay.dayNumber = 0 ∧ c.dayNumber = 36524) by omega
  have hmonth := daysBeforeMonth_succ c.year hm1
  rw [nextDay]
  split
  · left
    simp only [dayNumber]
    omega
  · split
    · left
      simp only [dayNumber]
      omega
    · rename_i hfull _
      have hm : c.month = 12 := by omega
      have hlast := daysBeforeMonth_december c.year
      have hyear := daysBeforeYear_succ c.year
      rw [hm, daysIn_december] at hmonth hd hfull
      simp only [dayNumber, daysBeforeMonth_first, hm] at *
      by_cases hwrap : c.year + 1 < 100
      · rw [if_pos hwrap]
        left
        omega
      · have hy99 : c.year = 99 := by omega
        rw [if_neg hwrap]
        right
        have h99 : daysBeforeYear 99 = 36160 := rfl
        have h0 : daysBeforeYear 0 = 0 := rfl
        rw [if_neg (by omega)] at hlast
        rw [hy99] at hlast ⊢
        omega

/-- R48: the weekday advances with the date. -/
theorem Calendar.nextDay_weekday {c : Calendar} (h : c.valid = true) : c.nextDay.weekday = (c.weekday + 1) % 7 := by
  obtain ⟨-, -, -, hw, -⟩ := c.valid_iff_daysIn.mp h
  have hweekday : c.nextDay.weekday = if c.weekday + 1 < 7 then c.weekday + 1 else 0 := by
    simp only [nextDay]
    split
    · rfl
    · split <;> rfl
  rw [hweekday]
  split <;> omega

theorem Calendar.nextDay_time (c : Calendar) :
    c.nextDay.second = c.second ∧ c.nextDay.minute = c.minute ∧ c.nextDay.hour = c.hour := by
  simp only [nextDay]
  split
  · exact ⟨rfl, rfl, rfl⟩
  · split <;> exact ⟨rfl, rfl, rfl⟩

/-! ### A second step (R48) -/

/-- R48: the calendar at midnight of its day. -/
def Calendar.midnight (c : Calendar) : Calendar := { c with second := 0, minute := 0, hour := 0 }

theorem Calendar.midnight_valid {c : Calendar} (h : c.valid = true) : c.midnight.valid = true := by
  rw [valid_iff_daysIn] at *
  obtain ⟨-, -, -, hrest⟩ := h
  exact ⟨Nat.zero_le _, Nat.zero_le _, Nat.zero_le _, hrest⟩

/-- R48: the last second of a day. -/
theorem Calendar.tick_last {c : Calendar} (hs : c.second = 59) (hm : c.minute = 59) (hh : c.hour = 23) :
    c.tick = c.midnight.nextDay := by
  rw [tick, if_neg (by omega), if_neg (by omega), if_neg (by omega), midnight]

theorem Calendar.tick_valid {c : Calendar} (h : c.valid = true) : c.tick.valid = true := by
  obtain ⟨hs, hmi, hh, hdate⟩ := c.valid_iff_daysIn.mp h
  by_cases hlast : c.second = 59 ∧ c.minute = 59 ∧ c.hour = 23
  · obtain ⟨h1, h2, h3⟩ := hlast
    rw [tick_last h1 h2 h3]
    exact nextDay_valid (midnight_valid h)
  · rw [tick, valid_iff_daysIn]
    split
    · exact ⟨by simp only; omega, hmi, hh, hdate⟩
    · split
      · exact ⟨by simp, by simp only; omega, hh, hdate⟩
      · rw [if_pos (by omega)]
        exact ⟨by simp, by simp, by simp only; omega, hdate⟩

/-- Settles O56: within a day the fields carry as seconds, minutes and hours do; at its last second the date goes one day
on. -/
theorem calendarCountsSeconds : Obligations.CalendarCountsSeconds := by
  intro c h
  refine ⟨c.tick_valid h, ?_⟩
  have hlt := c.dayNumber_lt h
  obtain ⟨hs, hmi, hh, hw, -⟩ := c.valid_iff_daysIn.mp h
  by_cases hlast : c.second = 59 ∧ c.minute = 59 ∧ c.hour = 23
  · obtain ⟨h1, h2, h3⟩ := hlast
    have hday := Calendar.nextDay_dayNumber (Calendar.midnight_valid h)
    have hsame : c.midnight.dayNumber = c.dayNumber := rfl
    obtain ⟨hs', hm', hh'⟩ := c.midnight.nextDay_time
    rw [Calendar.tick_last h1 h2 h3, if_pos ⟨h3, h2, h1⟩]
    refine ⟨?_, Calendar.nextDay_weekday (Calendar.midnight_valid h)⟩
    simp only [Calendar.secondNumber, hs', hm', hh', hday, hsame, h1, h2, h3]
    simp only [Calendar.midnight]
    omega
  · rw [if_neg (by omega), Calendar.tick]
    have hmod : (c.weekday + 0) % 7 = c.weekday := by omega
    rw [hmod]
    split
    · exact ⟨by simp only [Calendar.secondNumber, Calendar.dayNumber] at *; omega, rfl⟩
    · split
      · exact ⟨by simp only [Calendar.secondNumber, Calendar.dayNumber] at *; omega, rfl⟩
      · rw [if_pos (by omega)]
        exact ⟨by simp only [Calendar.secondNumber, Calendar.dayNumber] at *; omega, rfl⟩

end Sys2Proof.Machine
end

section
/-! SUPPORT and CERTIFICATE. What every step keeps, continued: the windows (R23, R24, R37, R38, R41), the ranges of clock,
settings, timers and memory (R47, R64, R114, R170), and the notice unit (R193). -/

namespace Sys2Proof.Machine

/-! ### Windows -/

/-- R24, R37, R38: the agreement of a window's state with its entry, phase by phase, as a proposition. -/
theorem Window.agrees_iff (w : Window) :
    w.agrees = true ↔
      (w.state.phase = .closed → w.state.minutes = 0 ∧ w.state.budget ≤ 0xFFFFFF) ∧
      (w.state.phase = .opened → 1 ≤ w.state.minutes ∧ w.state.minutes ≤ w.entry.duration ∧
        w.state.budget ≤ w.entry.budget ∧ (w.entry.budget = 0 ∨ 1 ≤ w.state.budget)) ∧
      (w.state.phase = .spent → 1 ≤ w.state.minutes ∧ w.state.minutes ≤ w.entry.duration ∧ w.state.budget = 0 ∧
        w.entry.budget ≠ 0) := by
  rw [agrees]
  cases w.state.phase <;> simp [and_assoc]

/-- R37: the remaining budget of a window is a budget. -/
theorem Window.budget_le {w : Window} (ha : w.agrees = true) (hr : w.entry.inRange = true) :
    w.state.budget ≤ 0xFFFFFF := by
  obtain ⟨hclosed, hopened, hspent⟩ := w.agrees_iff.mp ha
  obtain ⟨-, -, -, -, -, hbudget, -⟩ := w.entry.inRange_iff.mp hr
  cases hp : w.state.phase with
  | closed => exact (hclosed hp).2
  | opened => exact (hopened hp).2.2.1.trans hbudget
  | spent => exact (hspent hp).2.2.1 ▸ Nat.zero_le _

theorem WindowState.running_iff (w : WindowState) : w.running = true ↔ w.phase ≠ .closed := by
  simp [running]

/-- R39, R41: a window that closes agrees with whatever entry it then has. -/
theorem Window.close_agrees {w : Window} (e : WindowEntry) (hb : w.state.budget ≤ 0xFFFFFF) :
    Window.agrees { entry := e, state := w.state.close } = true := by
  simp [agrees, WindowState.close, hb]

/-- R39, R40: a window that is edited. -/
theorem Window.edited_agrees {w : Window} (e : WindowEntry) (ha : w.agrees = true) (hr : w.entry.inRange = true) :
    Window.agrees { entry := e, state := if w.state.running then w.state.close else w.state } = true := by
  split
  · exact close_agrees e (budget_le ha hr)
  · rename_i hrun
    have hclosed : w.state.phase = .closed := by simpa [WindowState.running_iff] using hrun
    obtain ⟨hmin, hbudget⟩ := (w.agrees_iff.mp ha).1 hclosed
    simp [agrees, hclosed, hmin, hbudget]

/-- R26: one minute counted down at one window. -/
theorem Window.countDown_agrees {w : Window} (ha : w.agrees = true) (hr : w.entry.inRange = true) :
    w.countDown.agrees = true := by
  rw [countDown, WindowState.countDown]
  split
  · split
    · exact close_agrees w.entry (budget_le ha hr)
    · obtain ⟨hclosed, hopened, hspent⟩ := w.agrees_iff.mp ha
      rw [agrees_iff]
      refine ⟨fun hp => ?_, fun hp => ?_, fun hp => ?_⟩
      · obtain ⟨h1, h2⟩ := hclosed hp
        exact ⟨by simp [h1], h2⟩
      · obtain ⟨h1, h2, h3⟩ := hopened hp
        exact ⟨by simp only; omega, by simp only; omega, h3⟩
      · obtain ⟨h1, h2, h3⟩ := hspent hp
        exact ⟨by simp only; omega, by simp only; omega, h3⟩
  · exact ha

/-- R26, R27: a minute boundary at one window. -/
theorem Window.boundary_agrees {w : Window} (c : Calendar) (ha : w.agrees = true) (hr : w.entry.inRange = true) :
    (w.boundary c).agrees = true := by
  obtain ⟨-, -, -, -, ⟨hduration, -⟩, -⟩ := w.entry.inRange_iff.mp hr
  rw [boundary, openAt]
  split
  · have hentry : w.countDown.entry = w.entry := rfl
    simp [agrees, hentry, hduration]
    omega
  · exact countDown_agrees ha hr

theorem Window.boundary_entry (c : Calendar) (w : Window) : (w.boundary c).entry = w.entry := by
  rw [boundary, openAt]
  split <;> rfl

theorem Window.takesCharge_iff (opening : Word16) (w : Window) :
    w.takesCharge opening = true ↔ w.state.phase = .opened ∧ w.state.opening = opening ∧ w.entry.budget ≠ 0 := by
  simp [takesCharge, and_assoc]

/-- R34: a charge at one window. -/
theorem Window.charged_agrees {w : Window} (n : Nat) (opening : Word16) (ha : w.agrees = true) :
    (w.charged n opening).agrees = true := by
  rw [charged]
  split
  · rename_i htakes
    obtain ⟨hopen, -, hbudget⟩ := (w.takesCharge_iff opening).mp htakes
    obtain ⟨h1, h2, h3, h4⟩ := (w.agrees_iff.mp ha).2.1 hopen
    rw [agrees_iff]
    by_cases hs : w.state.budget ≤ n
    · simp only [if_pos hs]
      exact ⟨by simp, by simp, fun _ => ⟨h1, h2, by omega, hbudget⟩⟩
    · simp only [if_neg hs]
      exact ⟨by simp, fun _ => ⟨h1, h2, by omega, .inr (by omega)⟩, by simp⟩
  · exact ha

theorem Window.charged_entry (n : Nat) (opening : Word16) (w : Window) : (w.charged n opening).entry = w.entry := by
  rw [charged]
  split <;> rfl

/-- R34: a charge opens no window. -/
theorem Window.charged_closed {n : Nat} {opening : Word16} {w : Window} (h : w.state.phase = .closed) :
    (w.charged n opening).state.phase = .closed := by
  rw [charged, if_neg (by simp [takesCharge_iff, h])]
  exact h

theorem WindowsSafe.congr {s t : State} (h : WindowsSafe s) (hw : t.windows = s.windows)
    (ht : t.supply = .main → t.tk.timeValid = false → s.supply = .main ∧ s.tk.timeValid = false) : WindowsSafe t := by
  refine ⟨fun i => hw ▸ h.entries i, fun i => hw ▸ h.states i, fun hs hv i => ?_⟩
  obtain ⟨hs', hv'⟩ := ht hs hv
  exact hw ▸ h.closedWithoutTime hs' hv' i

/-- R23, R24: one window written. -/
theorem WindowsSafe.of_setWindow {s : State} {i : WindowIx} {w : Window} (h : WindowsSafe s)
    (he : w.entry.inRange = true) (ha : w.agrees = true)
    (hc : s.windows[i].state.phase = .closed → w.state.phase = .closed) : WindowsSafe (setWindow i w s) := by
  refine ⟨fun j => ?_, fun j => ?_, fun hs hv j => ?_⟩
  · rw [windows_setWindow]
    split
    · exact he
    · exact h.entries j
  · rw [windows_setWindow]
    split
    · exact ha
    · exact h.states j
  · have hj := h.closedWithoutTime hs hv
    rw [windows_setWindow]
    split
    · exact hc (hj i)
    · exact hj j

theorem Window.blank_safe : Window.blank.entry.inRange = true ∧ Window.blank.agrees = true := ⟨rfl, rfl⟩

theorem coreReset_windows (strap : Octet) (s : State) (i : WindowIx) : (coreReset strap s).windows[i] = Window.blank :=
  tabulate_get_fin ..

theorem Move.keeps_windows {s t : State} (hm : Move s t) (h : WindowsSafe s) : WindowsSafe t := by
  cases hm with
  | clockStopped hsupply => exact h.congr rfl fun hs _ => absurd hs hsupply
  | clockStoppedWindowsClosed =>
    refine ⟨fun i => ?_, fun i => ?_, fun _ _ i => ?_⟩
    · simp only [mapTable_get_fin]
      split <;> exact h.entries i
    · simp only [mapTable_get_fin]
      split
      · exact Window.close_agrees _ (Window.budget_le (h.states i) (h.entries i))
      · exact h.states i
    · simp only [mapTable_get_fin]
      split
      · rfl
      · rename_i hrun
        simpa [WindowState.running_iff] using hrun
  | timeLoaded => exact h.congr rfl fun _ hv => by simp at hv
  | supplyLost x hx => exact h.congr rfl fun hs _ => absurd hs hx
  | timekeepingStarted x hx => exact h.congr rfl fun hs _ => absurd hs hx
  | coreReset strap =>
    refine ⟨fun i => ?_, fun i => ?_, fun _ _ i => ?_⟩ <;> rw [coreReset_windows]
    · exact Window.blank_safe.1
    · exact Window.blank_safe.2
    · rfl
  | trafficRestarted =>
    rw [trafficRestart_frame]
    exact h.congr rfl fun hs hv => ⟨hs, hv⟩
  | windowsBoundary c hvalid =>
    refine ⟨fun i => ?_, fun i => ?_, fun _ hv => by simp [hvalid] at hv⟩
    · rw [mapTable_get_fin, Window.boundary_entry]
      exact h.entries i
    · rw [mapTable_get_fin]
      exact Window.boundary_agrees c (h.states i) (h.entries i)
  | windowCharged i n opening =>
    exact h.of_setWindow (by rw [Window.charged_entry]; exact h.entries i) (Window.charged_agrees n opening (h.states i))
      Window.charged_closed
  | windowWritten i e he =>
    refine h.of_setWindow he (Window.edited_agrees e (h.states i) (h.entries i)) fun hc => ?_
    split
    · rfl
    · exact hc
  | _ => exact h.congr rfl fun hs hv => ⟨hs, hv⟩

/-- Settles O11: every move keeps the windows. -/
theorem stepKeepsWindows : Obligations.StepKeepsWindows :=
  fun _ _ => step_keeps (fun _ h => ⟨h.entries, h.states, h.closedWithoutTime⟩) fun hm h => hm.keeps_windows h

/-! ### The clock (R47, R50) -/

theorem ClockSafe.congr {s t : State} (h : ClockSafe s) (ht : t.tk = { s.tk with generation := t.tk.generation }) :
    ClockSafe t :=
  ⟨ht ▸ h.calendar, ht ▸ h.divider, ht ▸ h.validRuns⟩

theorem Move.keeps_clock {s t : State} (hm : Move s t) (h : ClockSafe s) : ClockSafe t := by
  cases hm with
  | ticked => exact ⟨Calendar.tick_valid h.calendar, Nat.zero_le _, h.validRuns⟩
  | crystalRuns => exact ⟨h.calendar, h.divider, fun _ => rfl⟩
  | divided n hn => exact ⟨h.calendar, hn, h.validRuns⟩
  | timeLoaded c hc hr => exact ⟨hc, Nat.zero_le _, fun _ => hr⟩
  | clockStopped => exact ⟨h.calendar, h.divider, fun hv => by simp at hv⟩
  | clockStoppedWindowsClosed => exact ⟨h.calendar, h.divider, fun hv => by simp at hv⟩
  | timekeepingStarted => exact ⟨rfl, Nat.zero_le _, fun hv => by simp [Timekeeping.start] at hv⟩
  | coreReset => exact h.congr rfl
  | trafficRestarted => exact h.congr (by rw [trafficRestart_frame])
  | _ => exact h.congr rfl

/-! ### Settings and timers (R170, R64) -/

theorem Move.keeps_settings {s t : State} (hm : Move s t) (h : s.settings.inRange = true) : t.settings.inRange = true := by
  cases hm with
  | settingsWritten t ht => exact ht h
  | coreReset => rfl
  | trafficRestarted =>
    rw [trafficRestart_frame]
    exact h
  | _ => exact h

/-- R64, R170: the settings and the timers they load are in range. -/
structure TimersSafe (s : State) : Prop where
  settings : s.settings.inRange = true
  grant : s.grantTimer ≤ 255
  holdoff : s.holdoffTimer ≤ 255

theorem TimersSafe.congr {s t : State} (h : TimersSafe s) (hs : t.settings.inRange = true)
    (hg : t.grantTimer = s.grantTimer) (hh : t.holdoffTimer = s.holdoffTimer) : TimersSafe t :=
  ⟨hs, hg ▸ h.grant, hh ▸ h.holdoff⟩

theorem Settings.timers_le {t : Settings} (h : t.inRange = true) : t.grantTimeout ≤ 255 ∧ t.holdOff ≤ 255 := by
  simp only [inRange, Bool.and_eq_true, decide_eq_true_eq] at h
  omega

theorem Move.keeps_timers {s t : State} (hm : Move s t) (h : TimersSafe s) : TimersSafe t := by
  have hsettings := hm.keeps_settings h.settings
  cases hm with
  | timersSet g k hg hk =>
    obtain ⟨hgrant, hholdoff⟩ := Settings.timers_le h.settings
    exact ⟨hsettings, hg.trans (max_le h.grant hgrant), hk.trans (max_le h.holdoff hholdoff)⟩
  | coreReset => exact ⟨hsettings, Nat.zero_le _, Nat.zero_le _⟩
  | trafficRestarted => exact h.congr hsettings (by rw [trafficRestart_frame]) (by rw [trafficRestart_frame])
  | _ => exact h.congr hsettings rfl rfl

/-! ### The memory (R114) -/

theorem MemorySafe.congr {s t : State} (h : MemorySafe s) (ht : t.store.mem = s.store.mem) : MemorySafe t :=
  ⟨ht ▸ h.canonical, ht ▸ h.inBlocks⟩

theorem Move.keeps_memory {s t : State} (hm : Move s t) (h : MemorySafe s) : MemorySafe t := by
  cases hm with
  | octetStored l r k rec claimed rest a o armed _ _ _ _ _ _ _ _ _ _ _ _ _ ha =>
    suffices hwritten : MemorySafe { s with store := { s.store with mem := memWrite s.store.mem a o } } from
      hwritten.congr rfl
    refine ⟨memWrite_wf s.store.mem a o h.canonical, fun c hc => ?_⟩
    rcases mem_memWrite s.store.mem a o c hc with hc | ⟨rfl, -⟩
    · exact h.inBlocks c hc
    · exact ha
  | coreReset => exact h.congr (by simp only [Machine.coreReset, Store.rebuilt])
  | trafficRestarted => exact h.congr (by simp only [trafficRestart_frame, Store.rebuilt])
  | _ => exact h.congr rfl

/-- Settles O12: every move keeps each of the four. -/
theorem stepKeepsRanges : Obligations.StepKeepsRanges := by
  refine ⟨fun s t => step_keeps (fun _ h => ⟨h.calendar, h.divider, h.validRuns⟩) fun hm h => hm.keeps_clock h,
    fun s t => step_keeps (fun _ h => h) fun hm h => hm.keeps_settings h, fun s t hs hg hh hst => ?_,
    fun s t => step_keeps (fun _ h => ⟨h.canonical, h.inBlocks⟩) fun hm h => hm.keeps_memory h⟩
  obtain ⟨-, hgrant, hholdoff⟩ := step_keeps (P := TimersSafe) (fun _ h => ⟨h.settings, h.grant, h.holdoff⟩)
    (fun hm h => hm.keeps_timers h) ⟨hs, hg, hh⟩ hst
  exact ⟨hgrant, hholdoff⟩

/-! ### The notice unit (R193) -/

/-- R193: what EventsSafe says of the event unit. -/
structure EventUnit.Safe (u : EventUnit) : Prop where
  quiet : u.unmaskedPending = (u.notice.state != .quiet)
  owed : u.unmaskedNew = true → u.notice.state = .owed
  timer : u.notice.timer.isSome = true → u.notice.state = .outstanding

theorem eventsSafe_iff (s : State) : EventsSafe s ↔ s.events.Safe :=
  ⟨fun h => ⟨h.quiet, h.owed, h.timer⟩, fun h => ⟨h.quiet, h.owed, h.timer⟩⟩

/-- R192: an unreported event is pending. -/
theorem EventUnit.pending_of_new {u : EventUnit} (h : u.unmaskedNew = true) : u.unmaskedPending = true := by
  rw [← someUnreported_iff] at h
  rw [← somePending_iff]
  obtain ⟨n, hmask, hnew⟩ := h
  exact ⟨n, hmask, by simp [hnew]⟩

theorem EventUnit.unmaskedPending_evaluate (setting : Nat) (u : EventUnit) :
    (u.evaluate setting).unmaskedPending = u.unmaskedPending := by
  rw [unmaskedPending, unmaskedPending, evaluate_mask, pendingSet, pendingSet, setOf, setOf, evaluate_states]

theorem EventUnit.unmaskedNew_evaluate (setting : Nat) (u : EventUnit) :
    (u.evaluate setting).unmaskedNew = u.unmaskedNew := by
  rw [unmaskedNew, unmaskedNew, evaluate_mask, newSet, newSet, setOf, setOf, evaluate_states]

/-- R194: an evaluation brings the unit into agreement, whatever events and mask were written, from a notice record whose
timer runs in OUTSTANDING only. -/
theorem EventUnit.evaluate_safe {u : EventUnit} (setting : Nat)
    (h : u.notice.timer.isSome = true → u.notice.state = .outstanding) : (u.evaluate setting).Safe := by
  have hpending := u.unmaskedPending_evaluate setting
  have hnew := u.unmaskedNew_evaluate setting
  suffices hu : u.unmaskedPending = ((u.evaluate setting).notice.state != .quiet) ∧
      (u.unmaskedNew = true → (u.evaluate setting).notice.state = .owed) ∧
      ((u.evaluate setting).notice.timer.isSome = true → (u.evaluate setting).notice.state = .outstanding) from
    ⟨hpending.trans hu.1, fun hn => hu.2.1 (hnew ▸ hn), hu.2.2⟩
  cases hn : u.unmaskedNew with
  | true => simp [evaluate, hn, pending_of_new hn]
  | false =>
    cases hp : u.unmaskedPending with
    | false => simp [evaluate, hn, hp]
    | true =>
      cases hs : u.notice.state with
      | quiet => simp [evaluate, hn, hp, hs]
      | owed => simpa [evaluate, hn, hp, hs] using h
      | outstanding => simp [evaluate, hn, hp, hs]

/-- R195: a notice built reports every pending event. -/
theorem EventUnit.noticeBuilt_safe {u : EventUnit} (setting : Nat) (h : u.Safe) (hs : u.notice.state = .owed) :
    (u.noticeBuilt setting).Safe := by
  have hpending : (u.noticeBuilt setting).SomePending := by
    have hold : u.SomePending := by
      rw [somePending_iff, h.quiet, hs]
      rfl
    obtain ⟨n, hmask, hn⟩ := hold
    refine ⟨n, hmask, ?_⟩
    rw [noticeBuilt, mapTable_get_fin, if_neg hn]
    simp
  have hnone : ¬(u.noticeBuilt setting).SomeUnreported := by
    rintro ⟨n, -, hn⟩
    rw [noticeBuilt, mapTable_get_fin] at hn
    split at hn <;> cases hn
  rw [somePending_iff] at hpending
  rw [someUnreported_iff] at hnone
  exact ⟨by rw [hpending]; rfl, fun hn => absurd hn hnone, fun _ => rfl⟩

theorem EventUnit.blank_safe : EventUnit.blank.Safe := by
  have hnone : ¬EventUnit.blank.SomePending := by
    rintro ⟨n, -, hn⟩
    exact hn (tabulate_get_fin ..)
  rw [somePending_iff] at hnone
  exact ⟨by simpa [EventUnit.blank] using hnone, fun hn => absurd (pending_of_new hn) hnone,
    fun ht => by simp [EventUnit.blank] at ht⟩

/-- R191: a raise keeps the agreement. -/
theorem EventUnit.raise_safe {u : EventUnit} (setting : Nat) (e : Event) (h : u.Safe) : (u.raise setting e).Safe := by
  rw [raise]
  split
  · exact evaluate_safe setting h.timer
  · exact h

theorem EventUnit.afterReset_safe (timeValid : Bool) : (EventUnit.afterReset timeValid).Safe := by
  cases timeValid with
  | true => exact blank_safe
  | false => exact raise_safe Settings.default.noticeRepeat .clockStopped blank_safe

theorem Move.keeps_events {s t : State} (hm : Move s t) (h : EventsSafe s) : EventsSafe t := by
  rw [eventsSafe_iff] at *
  cases hm with
  | evaluated u hu =>
    refine EventUnit.evaluate_safe _ fun ht => ?_
    rw [hu] at ht ⊢
    exact h.timer ht
  | repeatCounted => exact ⟨h.quiet, h.owed, fun ht => h.timer (by simpa [EventUnit.uptimeSecond] using ht)⟩
  | repeatExpired hexpired =>
    have hs : s.events.notice.state = .outstanding := by
      simp only [EventUnit.repeatExpired, Bool.and_eq_true, beq_iff_eq] at hexpired
      exact hexpired.1
    have hq := h.quiet
    rw [hs] at hq
    exact ⟨hq, fun _ => rfl, fun ht => by simp [EventUnit.owe] at ht⟩
  | noticeReported hs => exact EventUnit.noticeBuilt_safe _ h hs
  | coreReset => exact EventUnit.afterReset_safe _
  | trafficRestarted =>
    rw [trafficRestart_frame]
    exact h
  | _ => exact h

/-- Settles O13: every move keeps the agreement. -/
theorem stepKeepsNoticeUnit : Obligations.StepKeepsNoticeUnit :=
  fun _ _ => step_keeps (fun _ h => ⟨h.quiet, h.owed, h.timer⟩) fun hm h => hm.keeps_events h

end Sys2Proof.Machine
end

section
/-! SUPPORT and CERTIFICATE. What every step keeps, continued: slots, queued orders, caches, in-flight records and the restart
state (R151, R152, R160, R162). -/

namespace Sys2Proof.Machine

/-! ### The records of one line -/

theorem LineAgent.isCacheSlot_iff (g : LineAgent) (i : SlotIx) :
    g.isCacheSlot i = true ↔ ∃ c, g.cache = some c ∧ c.slot = i := by
  rw [isCacheSlot]
  cases g.cache with
  | none => simp
  | some c => simp

/-- R151, R152: one slot and the queued order written. -/
theorem LineAgent.Safe.of_slot {g g' : LineAgent} {i : SlotIx} {x : Slot} (h : g.Safe)
    (hslots : ∀ j : SlotIx, g'.slots[j] = if j = i then x else g.slots[j]) (hcache : g'.cache = g.cache)
    (hnodup : g'.order.Nodup) (hothers : ∀ j, j ≠ i → (j ∈ g'.order ↔ j ∈ g.order))
    (hown : i ∈ g'.order ↔ (x.state = .queued ∨ x.state = .sending)) (hempty : x.state = .free ↔ x.content = none)
    (hcached : x.state = .cached → g.isCacheSlot i = true)
    (hheld : g.isCacheSlot i = true → x.content = g.slots[i].content) : g'.Safe := by
  have hisCache : ∀ j, g'.isCacheSlot j = g.isCacheSlot j := fun j => by rw [isCacheSlot, isCacheSlot, hcache]
  refine ⟨hnodup, fun j => ?_, fun j => ?_, fun j => ?_, fun c hc => ?_⟩
  · rw [hslots]
    by_cases hj : j = i
    · subst hj
      rw [if_pos rfl]
      exact hown
    · rw [if_neg hj, hothers j hj]
      exact h.ordered j
  · rw [hslots]
    split
    · exact hempty
    · exact h.freeEmpty j
  · rw [hslots, hisCache]
    split
    · exact fun hx => ‹j = i› ▸ hcached hx
    · exact h.cachedOnly j
  · rw [hcache] at hc
    obtain ⟨f, hcontent, hrole, hpayload⟩ := h.cacheHolds c hc
    refine ⟨f, ?_, hrole, hpayload⟩
    rw [hslots]
    split
    · rename_i hslot
      rw [hheld (g.isCacheSlot_iff i |>.mpr ⟨c, hc, hslot⟩), ← hslot]
      exact hcontent
    · exact hcontent

theorem LineAgent.Safe.content_of_cacheSlot {g : LineAgent} (h : g.Safe) {i : SlotIx} (hi : g.isCacheSlot i = true) :
    g.slots[i].state ≠ .free := by
  obtain ⟨c, hc, rfl⟩ := (g.isCacheSlot_iff i).mp hi
  obtain ⟨f, hcontent, -⟩ := h.cacheHolds c hc
  rw [ne_eq, h.freeEmpty, hcontent]
  simp

/-- R151: the slot at the end of the queued order. -/
theorem mem_movedBehind (order : List SlotIx) (i j : SlotIx) : j ∈ order.filter (· != i) ++ [i] ↔ j = i ∨ j ∈ order := by
  by_cases h : j = i <;> simp [h]

theorem nodup_movedBehind {order : List SlotIx} (i : SlotIx) (h : order.Nodup) :
    (order.filter (· != i) ++ [i]).Nodup := by
  rw [List.nodup_append]
  refine ⟨h.filter _, List.nodup_singleton i, fun a ha b hb => ?_⟩
  obtain rfl := List.mem_singleton.mp hb
  simpa using (List.mem_filter.mp ha).2

theorem LineAgent.Safe.place {g : LineAgent} {i : SlotIx} (f : SlotFrame) (h : g.Safe) (hfree : g.slots[i].state = .free) :
    (g.place i f).Safe :=
  h.of_slot (i := i) (fun j => table_set_get ..) rfl (nodup_movedBehind i h.orderOnce)
    (fun j hj => by rw [LineAgent.place, mem_movedBehind]; simp [hj]) (by simp [LineAgent.place])
    (by simp) (by simp) fun hi => absurd hfree (h.content_of_cacheSlot hi)

theorem LineAgent.Safe.requeue {g : LineAgent} {i : SlotIx} (h : g.Safe) (hused : g.slots[i].state ≠ .free) :
    (g.requeue i).Safe :=
  h.of_slot (i := i) (fun j => table_set_get ..) rfl (nodup_movedBehind i h.orderOnce)
    (fun j hj => by rw [LineAgent.requeue, mem_movedBehind]; simp [hj]) (by simp [LineAgent.requeue])
    (by simpa using (h.freeEmpty i).not.mp hused) (by simp) fun _ => rfl

theorem LineAgent.Safe.mem_order {g : LineAgent} {i : SlotIx} (h : g.Safe)
    (hi : g.slots[i].state = .queued ∨ g.slots[i].state = .sending) : i ∈ g.order := (h.ordered i).mpr hi

theorem LineAgent.Safe.startSending {g : LineAgent} {i : SlotIx} (h : g.Safe) (hi : g.slots[i].state = .queued) :
    (g.startSending i).Safe :=
  h.of_slot (i := i) (fun j => table_set_get ..) rfl h.orderOnce (fun _ _ => .rfl)
    (iff_of_true (h.mem_order (.inl hi)) (.inr rfl)) (by simpa [hi, -Fin.getElem_fin] using h.freeEmpty i) (by simp) fun _ => rfl

theorem LineAgent.Safe.backToQueued {g : LineAgent} {i : SlotIx} (n : Nat) (h : g.Safe)
    (hi : g.slots[i].state = .sending) : (g.backToQueued i n).Safe :=
  h.of_slot (i := i) (fun j => table_set_get ..) rfl h.orderOnce (fun _ _ => .rfl)
    (iff_of_true (h.mem_order (.inr hi)) (.inl rfl)) (by simpa [hi, -Fin.getElem_fin] using h.freeEmpty i) (by simp) fun _ => rfl

/-- R160: the slot at the end of its sending is CACHED or FREE. -/
theorem LineAgent.endedSlot_state (g : LineAgent) (i : SlotIx) :
    (g.endedSlot i).state ≠ .queued ∧ (g.endedSlot i).state ≠ .sending := by
  rw [endedSlot]
  split <;> exact ⟨by simp [Slot.blank], by simp [Slot.blank]⟩

theorem LineAgent.Safe.endSending {g : LineAgent} {i : SlotIx} (h : g.Safe) (hused : g.slots[i].state ≠ .free) :
    (g.endSending i).Safe := by
  obtain ⟨hq, hs⟩ := g.endedSlot_state i
  refine h.of_slot (i := i) (x := g.endedSlot i) (fun j => table_set_get ..) rfl (h.orderOnce.filter _)
    (fun j hj => by simp [LineAgent.endSending, hj]) (by simp [LineAgent.endSending, hq, hs]) ?_ ?_ ?_
  · rw [endedSlot]
    split
    · simpa using (h.freeEmpty i).not.mp hused
    · simp [Slot.blank]
  · rw [endedSlot]
    split
    · exact fun _ => by assumption
    · simp [Slot.blank]
  · intro hi
    rw [endedSlot, if_pos hi]

/-- R158: what the move of the cache leaves of the slots: the CACHED one, if any, is dropped. -/
theorem LineAgent.Safe.moveCache_slot {g : LineAgent} (c : Cache) (h : g.Safe) (j : SlotIx) :
    (g.moveCache c).slots[j] = if g.slots[j].state = .cached then Slot.blank else g.slots[j] := by
  have hcached := h.cachedOnly j
  rw [LineAgent.moveCache]
  cases hold : g.cache with
  | none => rw [if_neg fun hj => by simp [isCacheSlot, hold] at hcached; exact hcached hj]
  | some old =>
    have hj : g.slots[j].state = .cached → old.slot = j := by
      simpa [isCacheSlot, hold, -Fin.getElem_fin] using hcached
    by_cases ho : g.slots[old.slot].state = .cached
    · simp only [if_pos ho]
      rw [table_set_get]
      by_cases hjo : j = old.slot
      · subst hjo
        rw [if_pos rfl, if_pos ho]
      · rw [if_neg hjo, if_neg fun hs => hjo (hj hs).symm]
    · simp only [if_neg ho]
      rw [if_neg fun hs => ho ((hj hs) ▸ hs)]

/-- R158: the cache takes a response that has just been placed, and the previous response, if it is CACHED, is dropped. -/
theorem LineAgent.Safe.moveCache {g : LineAgent} {c : Cache} {f : SlotFrame} (h : g.Safe)
    (hcontent : g.slots[c.slot].content = some f) (hqueued : g.slots[c.slot].state = .queued) (hrole : f.role = .response)
    (hpayload : f.payload.take 2 = [c.seq, c.code]) : (g.moveCache c).Safe := by
  refine ⟨h.orderOnce, fun j => ?_, fun j => ?_, fun j => ?_, fun c' hc' => ?_⟩
  · rw [h.moveCache_slot]
    refine (h.ordered j).trans ?_
    split
    · rename_i hj
      rw [hj]
      simp [Slot.blank]
    · rfl
  · rw [h.moveCache_slot]
    split
    · simp [Slot.blank]
    · exact h.freeEmpty j
  · rw [h.moveCache_slot]
    split
    · simp [Slot.blank]
    · exact fun hj => absurd hj ‹_›
  · obtain rfl : c = c' := Option.some.inj hc'
    refine ⟨f, ?_, hrole, hpayload⟩
    rw [h.moveCache_slot, hqueued, if_neg (by simp)]
    exact hcontent

/-- R158: the response placed, and the cache moved to it. -/
theorem LineAgent.Safe.answered {g : LineAgent} {i : SlotIx} {f : SlotFrame} {seq code : Octet} (h : g.Safe)
    (hfree : g.slots[i].state = .free) (hrole : f.role = .response) (hpayload : f.payload.take 2 = [seq, code]) :
    ((g.place i f).moveCache ⟨seq, code, i⟩).Safe :=
  (h.place f hfree).moveCache (f := f) (by simp [LineAgent.place]) (by simp [LineAgent.place]) hrole hpayload

/-- R164: a slot at a traffic restart keeps its content where the cache names it. -/
theorem LineAgent.restartedSlot_cases (g : LineAgent) (i : SlotIx) :
    (g.slots[i].state = .free ∨ g.slots[i].state = .cached ∨ (g.slots[i].state = .queued ∧ g.isCacheSlot i = true)) ∧
        g.restartedSlot i = g.slots[i] ∨
      g.slots[i].state = .sending ∧ g.isCacheSlot i = true ∧ g.restartedSlot i = { g.slots[i] with state := .cached } ∨
      g.isCacheSlot i = false ∧ (g.slots[i].state = .queued ∨ g.slots[i].state = .sending) ∧
        g.restartedSlot i = Slot.blank := by
  cases hs : g.slots[i].state <;> cases hi : g.isCacheSlot i <;> simp [restartedSlot, endedSlot, hs, hi, -Fin.getElem_fin]

theorem LineAgent.Safe.trafficRestart {g : LineAgent} (h : g.Safe) : g.trafficRestart.Safe := by
  have hslots : ∀ j : SlotIx, g.trafficRestart.slots[j] = g.restartedSlot j := fun j => tabulate_get_fin ..
  refine ⟨h.orderOnce.filter _, fun j => ?_, fun j => ?_, fun j => ?_, fun c hc => ?_⟩
  · rw [hslots]
    simp only [LineAgent.trafficRestart, List.mem_filter, beq_iff_eq]
    rcases g.restartedSlot_cases j with ⟨hs, hr⟩ | ⟨hs, -, hr⟩ | ⟨-, -, hr⟩
    · rw [hr, h.ordered]
      rcases hs with hs | hs | ⟨hs, -⟩ <;> simp [hs, -Fin.getElem_fin]
    · simp [hr]
    · simp [hr, Slot.blank]
  · rw [hslots]
    rcases g.restartedSlot_cases j with ⟨-, hr⟩ | ⟨hs, -, hr⟩ | ⟨-, -, hr⟩
    · rw [hr]
      exact h.freeEmpty j
    · simpa [hr, hs, -Fin.getElem_fin] using h.freeEmpty j
    · simp [hr, Slot.blank]
  · rw [hslots]
    rcases g.restartedSlot_cases j with ⟨-, hr⟩ | ⟨-, hi, -⟩ | ⟨-, -, hr⟩
    · rw [hr]
      exact h.cachedOnly j
    · exact fun _ => hi
    · simp [hr, Slot.blank]
  · obtain ⟨f, hcontent, hrest⟩ := h.cacheHolds c hc
    refine ⟨f, ?_, hrest⟩
    have hi : g.isCacheSlot c.slot = true := (g.isCacheSlot_iff _).mpr ⟨c, hc, rfl⟩
    rw [hslots]
    rcases g.restartedSlot_cases c.slot with ⟨-, hr⟩ | ⟨-, -, hr⟩ | ⟨hn, -, -⟩
    · rw [hr]
      exact hcontent
    · rw [hr]
      exact hcontent
    · simp [hi] at hn

/-- R164: no slot is SENDING after a traffic restart. -/
theorem LineAgent.trafficRestart_state {g : LineAgent} (i : SlotIx) : g.trafficRestart.slots[i].state ≠ .sending := by
  rw [LineAgent.trafficRestart, tabulate_get_fin]
  rcases g.restartedSlot_cases i with ⟨hs, hr⟩ | ⟨-, -, hr⟩ | ⟨-, -, hr⟩
  · rw [hr]
    rcases hs with hs | hs | ⟨hs, -⟩ <;> simp [hs, -Fin.getElem_fin]
  · simp [hr]
  · simp [hr, Slot.blank]

theorem LineAgent.blank_slots (i : SlotIx) : LineAgent.blank.slots[i] = Slot.blank := tabulate_get_fin ..

theorem LineAgent.blank_safe : LineAgent.blank.Safe := by
  refine ⟨List.nodup_nil, fun i => ?_, fun i => ?_, fun i => ?_, fun c hc => by cases hc⟩ <;> rw [blank_slots]
  · simp [LineAgent.blank, Slot.blank]
  · simp [Slot.blank]
  · simp [Slot.blank]

/-! ### The part -/

/-- R151, R162: nothing of the agent, the slots in flight and the restart state changed. -/
theorem AgentSafe.congr {s t : State} (h : AgentSafe s) (hm : t.mgmt = s.mgmt)
    (hflight : ∀ l, t.slotInFlight l = s.slotInFlight l)
    (hr : ∀ sc l i d, t.restart = .pending sc l i d → s.restart = .pending sc l i d) : AgentSafe t := by
  have hagent : ∀ l, t.agent l = s.agent l := fun l => by rw [State.agent, hm]; rfl
  refine ⟨fun l => ?_, fun l i => ?_, fun sc l i d hp => ?_⟩
  · rw [hagent]
    exact h.lines l
  · rw [hagent, hflight]
    exact h.sending l i
  · rw [hagent]
    exact h.pendingResponse sc l i d (hr sc l i d hp)

/-- R160, R162: the records of one line written, with what its transmitter has in flight. -/
theorem AgentSafe.of_agent {s t : State} {l : Line} {g : LineAgent} (h : AgentSafe s) (hm : t.mgmt = s.mgmt.set l g)
    (hflight : ∀ l', l' ≠ l → t.slotInFlight l' = s.slotInFlight l') (hg : g.Safe)
    (hsending : ∀ i : SlotIx, g.slots[i].state = .sending ↔ t.slotInFlight l = some i)
    (hothers : ∀ sc l' i d, l' ≠ l → t.restart = .pending sc l' i d → s.restart = .pending sc l' i d)
    (hown : ∀ sc i d, t.restart = .pending sc l i d → g.isCacheSlot i = true ∧ i ∈ g.order) : AgentSafe t := by
  have hagent : ∀ l', t.agent l' = if l' = l then g else s.agent l' := fun l' => by
    rw [State.agent, hm]
    exact perLine_get_set ..
  refine ⟨fun l' => ?_, fun l' i => ?_, fun sc l' i d hp => ?_⟩
  · rw [hagent]
    split
    · exact hg
    · exact h.lines l'
  · rw [hagent]
    split
    · rename_i hl
      subst hl
      exact hsending i
    · rw [hflight l' ‹_›]
      exact h.sending l' i
  · rw [hagent]
    split
    · rename_i hl
      subst hl
      exact hown sc i d hp
    · exact h.pendingResponse sc l' i d (hothers sc l' i d ‹_› hp)

theorem AgentSafe.not_sending {s : State} {l : Line} (h : AgentSafe s) (hn : s.slotInFlight l = none) (i : SlotIx) :
    (s.agent l).slots[i].state ≠ .sending := by
  rw [ne_eq, h.sending l i, hn]
  simp

theorem AgentSafe.sending_of_inFlight {s : State} {l : Line} {i : SlotIx} (h : AgentSafe s)
    (hi : s.slotInFlight l = some i) : (s.agent l).slots[i].state = .sending := (h.sending l i).mpr hi

/-- R66: a transmitter that has a data frame in flight has no slot in flight. -/
theorem slotInFlight_of_framesHeld {s : State} {h : Block} (htx : s.txB.framesHeld = [h]) : s.slotInFlight .b = none := by
  have hframe : ∀ f : InFlight, f.framesHeld = [h] → f.slotHeld = none := by
    intro f hf
    cases f with
    | frame => rfl
    | slot i => simp [InFlight.framesHeld] at hf
  cases hb : s.txB with
  | idle => simp only [State.slotInFlight, hb]
  | requesting f =>
    simp only [State.slotInFlight, hb]
    exact hframe f (by simpa only [hb, TxB.framesHeld] using htx)
  | sending f os =>
    simp only [State.slotInFlight, hb]
    exact hframe f (by simpa only [hb, TxB.framesHeld] using htx)
  | holdoff => simp only [State.slotInFlight, hb]

/-- R67: a slot of a line selected. -/
theorem AgentSafe.of_selected {s t : State} {l : Line} {i : SlotIx} (h : AgentSafe s)
    (hm : t.mgmt = s.mgmt.set l ((s.agent l).startSending i)) (hidle : s.slotInFlight l = none)
    (hslot : (s.agent l).slots[i].state = .queued) (ht : t.slotInFlight l = some i)
    (hflight : ∀ l', l' ≠ l → t.slotInFlight l' = s.slotInFlight l') (hr : t.restart = s.restart) : AgentSafe t := by
  refine h.of_agent hm hflight ((h.lines l).startSending hslot) (fun j => ?_) (fun _ _ _ _ _ hp => hr ▸ hp)
    fun sc j d hp => h.pendingResponse sc l j d (hr ▸ hp)
  have hj := h.not_sending hidle j
  rw [LineAgent.startSending, LineAgent.setSlot, table_set_get, ht]
  by_cases hji : j = i
  · simp [hji]
  · simp [hji, hj, Ne.symm hji, -Fin.getElem_fin]

/-- R160, R163: a slot's sending ended, from SENDING or from the QUEUED of its last failed attempt. -/
theorem AgentSafe.of_ended {s t : State} {l : Line} {i : SlotIx} {g : LineAgent} (h : AgentSafe s)
    (hflight : s.slotInFlight l = some i) (hg : g.Safe) (hused : g.slots[i].state ≠ .free)
    (hslots : ∀ j : SlotIx, j ≠ i → g.slots[j] = (s.agent l).slots[j]) (hcache : g.cache = (s.agent l).cache)
    (horder : g.order = (s.agent l).order) (hm : t.mgmt = s.mgmt.set l (g.endSending i))
    (hr : t.restart = s.restart.slotEnded l i) (hnone : t.slotInFlight l = none)
    (hothers : ∀ l', l' ≠ l → t.slotInFlight l' = s.slotInFlight l') : AgentSafe t := by
  have hpending : ∀ sc l' j d, t.restart = .pending sc l' j d →
      s.restart = .pending sc l' j d ∧ ¬(l' = l ∧ j = i) := by
    intro sc l' j d hp
    rw [hr] at hp
    unfold RestartState.slotEnded at hp
    split at hp
    · cases hp
    · split at hp
      · cases hp
      · cases hp
        exact ⟨by assumption, by assumption⟩
    · cases hp
  refine h.of_agent hm hothers (hg.endSending hused) (fun j => ?_) (fun sc l' j d _ hp => (hpending sc l' j d hp).1)
    fun sc j d hp => ?_
  · rw [hnone, LineAgent.endSending, table_set_get]
    by_cases hji : j = i
    · simp [hji, (g.endedSlot_state i).2]
    · have hj := (h.sending l j).not.mpr fun hf => hji (by rw [hflight] at hf; exact (Option.some.inj hf).symm)
      simp [hji, hslots j hji, hj, -Fin.getElem_fin]
  · obtain ⟨hold, hne⟩ := hpending sc l j d hp
    obtain ⟨hi, hmem⟩ := h.pendingResponse sc l j d hold
    refine ⟨?_, ?_⟩
    · rw [← hi, LineAgent.isCacheSlot, LineAgent.isCacheSlot, LineAgent.endSending, hcache]
    · have hji : j ≠ i := fun hji => hne ⟨rfl, hji⟩
      simp only [LineAgent.endSending, horder, List.mem_filter, bne_iff_ne, ne_eq]
      exact ⟨hmem, hji⟩

/-- R161, R155: a slot of a line queued at the end of the order, from FREE or CACHED. -/
theorem AgentSafe.of_queued {s t : State} {l : Line} {i : SlotIx} {g : LineAgent} {x : Slot} (h : AgentSafe s)
    (hidle : (s.agent l).slots[i].state ≠ .sending) (hg : g.Safe)
    (hslots : ∀ j : SlotIx, g.slots[j] = if j = i then x else (s.agent l).slots[j]) (hx : x.state = .queued)
    (hcache : g.cache = (s.agent l).cache) (horder : ∀ j, j ∈ (s.agent l).order → j ∈ g.order)
    (hm : t.mgmt = s.mgmt.set l g) (hflight : ∀ l', t.slotInFlight l' = s.slotInFlight l')
    (hr : t.restart = s.restart) : AgentSafe t := by
  refine h.of_agent hm (fun l' _ => hflight l') hg (fun j => ?_) (fun _ _ _ _ _ hp => hr ▸ hp) fun sc j d hp => ?_
  · rw [hflight, ← h.sending l j, hslots]
    by_cases hji : j = i
    · simp [hji, hx, hidle, -Fin.getElem_fin]
    · simp [hji]
  · obtain ⟨hi, hmem⟩ := h.pendingResponse sc l j d (hr ▸ hp)
    exact ⟨by rw [← hi, LineAgent.isCacheSlot, LineAgent.isCacheSlot, hcache], horder j hmem⟩

/-- R164, R167: no slot in flight, no restart pending, and no slot SENDING. -/
theorem AgentSafe.of_restarted {t : State} (hlines : ∀ l, (t.agent l).Safe)
    (hsending : ∀ l, ∀ i : SlotIx, (t.agent l).slots[i].state ≠ .sending) (hflight : ∀ l, t.slotInFlight l = none)
    (hr : t.restart = .normal) : AgentSafe t :=
  ⟨hlines, fun l i => by simp [hsending l i, hflight l, -Fin.getElem_fin], fun sc l i d hp => by simp [hr] at hp⟩

theorem Move.keeps_agent {s t : State} (hm : Move s t) (h : AgentSafe s) : AgentSafe t := by
  have hsame : ∀ sc l i d, s.restart = .pending sc l i d → s.restart = .pending sc l i d := fun _ _ _ _ hp => hp
  cases hm with
  | coreReset =>
    refine .of_restarted (fun l => ?_) (fun l i => ?_) (fun l => by cases l <;> rfl) rfl
    · cases l <;> exact LineAgent.blank_safe
    · cases l <;> exact (LineAgent.blank_slots i).symm ▸ by simp [Slot.blank]
  | trafficRestarted =>
    rw [trafficRestart_frame]
    refine .of_restarted (fun l => ?_) (fun l i => ?_) (fun l => by cases l <;> rfl) rfl
    · cases l
      · exact (h.lines .a).trafficRestart
      · exact (h.lines .b).trafficRestart
    · cases l <;> exact LineAgent.trafficRestart_state i
  | frameDepartedA q k marked sponsor os hidle =>
    exact h.congr rfl (fun l => by cases l <;> simp only [State.slotInFlight, hidle] <;> rfl) hsame
  | frameDepartedB q k sponsor tx hidle _ htx =>
    exact h.congr rfl (fun l => by
      cases l
      · rfl
      · simp only [State.slotInFlight, hidle]
        rcases htx with rfl | ⟨os, rfl⟩ <;> rfl) hsame
  | transmitterBStepped tx htx =>
    refine h.congr rfl (fun l => ?_) hsame
    cases l with
    | a => rfl
    | b =>
      rcases htx with ⟨f, hf, os, rfl⟩ | ⟨-, hn, rfl | rfl⟩
      · simp only [State.slotInFlight, hf]
      · rw [hn]
        rfl
      · rw [hn]
        rfl
  | frameReleasedA q k marked sponsor os armed htx =>
    exact h.congr rfl (fun l => by
      cases l
      · simp only [State.slotInFlight, htx]
        rfl
      · rfl) hsame
  | frameReleasedB k armed htx =>
    exact h.congr rfl (fun l => by
      cases l
      · rfl
      · rw [slotInFlight_of_framesHeld htx]
        rfl) hsame
  | frameReturned q k marked htx =>
    exact h.congr rfl (fun l => by
      cases l
      · rfl
      · rw [slotInFlight_of_framesHeld htx]
        rfl) hsame
  | slotSelectedA i os hidle hslot =>
    exact h.of_selected (l := .a) rfl (by simp only [State.slotInFlight, hidle]) hslot rfl
      (fun l' hl' => by cases l' <;> first | rfl | exact absurd rfl hl') rfl
  | slotSelectedB i tx hidle hslot htx =>
    refine h.of_selected (l := .b) rfl (by simp only [State.slotInFlight, hidle]) hslot ?_
      (fun l' hl' => by cases l' <;> first | rfl | exact absurd rfl hl') rfl
    rcases htx with rfl | ⟨os, rfl⟩ <;> rfl
  | slotEndedA i hi =>
    have hstate := h.sending_of_inFlight hi
    exact h.of_ended hi (h.lines .a) (by simp [hstate, -Fin.getElem_fin]) (fun _ _ => rfl) rfl rfl rfl rfl rfl
      (fun l' hl' => by cases l' <;> first | rfl | exact absurd rfl hl')
  | slotEndedB i n hi =>
    have hstate := h.sending_of_inFlight hi
    exact h.of_ended (g := (s.agent .b).backToQueued i n) hi ((h.lines .b).backToQueued n hstate)
      (by simp [LineAgent.backToQueued, LineAgent.setSlot])
      (fun j hj => by rw [LineAgent.backToQueued, LineAgent.setSlot, table_set_get, if_neg hj]) rfl rfl
      (by simp [slotEnded, setAgent, State.agent]) rfl rfl
      (fun l' hl' => by cases l' <;> first | rfl | exact absurd rfl hl')
  | slotReturnedB i n hi =>
    have hstate := h.sending_of_inFlight hi
    refine h.of_agent (l := .b) (g := (s.agent .b).backToQueued i n) rfl
      (fun l' hl' => by cases l' <;> first | rfl | exact absurd rfl hl') ((h.lines .b).backToQueued n hstate) (fun j => ?_)
      (fun _ _ _ _ _ hp => hp) fun sc j d hp => h.pendingResponse sc .b j d hp
    rw [LineAgent.backToQueued, LineAgent.setSlot, table_set_get]
    by_cases hji : j = i
    · simp [hji, State.slotInFlight]
    · have hj := (h.sending .b j).not.mpr fun hf => hji (by rw [hi] at hf; exact (Option.some.inj hf).symm)
      simp [hji, hj, State.slotInFlight, -Fin.getElem_fin]
  | slotPlaced l i f hfree =>
    exact h.of_queued (l := l) (i := i) (g := (s.agent l).place i f) (by simp [hfree, -Fin.getElem_fin]) ((h.lines l).place f hfree)
      (fun j => table_set_get ..) rfl rfl (fun j hj => (mem_movedBehind ..).mpr (.inr hj)) rfl (fun _ => rfl) rfl
  | slotRequeued l c hcache hcached =>
    exact h.of_queued (l := l) (i := c.slot) (g := (s.agent l).requeue c.slot) (by simp [hcached, -Fin.getElem_fin])
      ((h.lines l).requeue (by simp [hcached, -Fin.getElem_fin]))
      (fun j => table_set_get ..) rfl rfl (fun j hj => (mem_movedBehind ..).mpr (.inr hj)) rfl (fun _ => rfl) rfl
  | requestAnswered l i f seq code rs hfree hrole hpayload hnormal hrs =>
    have hplaced := (h.lines l).place f hfree
    refine h.of_agent (l := l) (g := ((s.agent l).place i f).moveCache ⟨seq, code, i⟩) rfl (fun _ _ => rfl)
      ((h.lines l).answered hfree hrole hpayload) (fun j => ?_) (fun sc l' j d hl' hp => ?_) fun sc j d hp => ?_
    · rw [hplaced.moveCache_slot, LineAgent.place, table_set_get]
      refine Iff.trans ?_ (h.sending l j)
      by_cases hji : j = i
      · simp [hji, hfree, -Fin.getElem_fin]
      · rw [if_neg hji]
        split
        · rename_i hj
          rw [hj]
          simp [Slot.blank]
        · rfl
    · rcases hrs with rfl | ⟨sc', rfl⟩
      · simp at hp
      · simp only [RestartState.pending.injEq] at hp
        exact absurd hp.2.1.symm hl'
    · rcases hrs with rfl | ⟨sc', rfl⟩
      · simp at hp
      · simp only [RestartState.pending.injEq] at hp
        obtain ⟨-, -, rfl, -⟩ := hp
        exact ⟨by simp [LineAgent.isCacheSlot, LineAgent.moveCache], (mem_movedBehind ..).mpr (.inl rfl)⟩
  | restartDue sc l i d hp => exact h.congr rfl (fun _ => rfl) fun _ _ _ _ hp => by simp at hp
  | _ => exact h.congr rfl (fun _ => rfl) hsame

/-- Settles O14: every move keeps the agreement. -/
theorem stepKeepsSlotsAndCaches : Obligations.StepKeepsSlotsAndCaches :=
  fun _ _ => step_keeps (fun _ h => ⟨h.lines, h.sending, h.pendingResponse⟩) fun hm h => hm.keeps_agent h

end Sys2Proof.Machine
end

section
/-! SUPPORT and CERTIFICATE. The frames the part holds (R2, R111): every handle in one place, counted place by place, and what
every step keeps of the blocks. -/

namespace Sys2Proof.Machine

/-! ### Handles, place by place -/

/-- The handles of the frames being received. -/
def State.handlesReceived (s : State) : List Block := s.rx.a.handle.toList ++ s.rx.b.handle.toList

/-- The handles of the frames in queues. -/
def State.handlesQueued (s : State) : List Block := s.queues.toList.flatMap (·.frames)

theorem framesHeld_eq (s : State) :
    s.framesHeld = s.handlesReceived ++ (s.handlesQueued ++ s.txA.framesHeld ++ s.txB.framesHeld) := rfl

theorem framesComplete_eq (s : State) :
    s.framesComplete = s.handlesQueued ++ s.txA.framesHeld ++ s.txB.framesHeld := rfl

theorem count_framesHeld (s : State) (k : Block) :
    s.framesHeld.count k =
      s.handlesReceived.count k + s.handlesQueued.count k + s.txA.framesHeld.count k + s.txB.framesHeld.count k := by
  simp only [framesHeld_eq, List.count_append]
  omega

theorem handlesQueued_eq (s : State) : s.handlesQueued = (List.finRange 8).flatMap fun q => (s.queue q).frames := by
  have htable : s.queues.toList = (List.finRange 8).map fun q => s.queue q :=
    List.ext_getElem (by simp) fun i h1 h2 => by simp [State.queue]
  rw [State.handlesQueued, htable, List.flatMap_map]

theorem mem_handlesQueued (s : State) (k : Block) : k ∈ s.handlesQueued ↔ ∃ q, k ∈ (s.queue q).frames := by
  simp [handlesQueued_eq]

theorem count_handlesQueued (s : State) (k : Block) :
    s.handlesQueued.count k = ∑ q : QueueIx, (s.queue q).frames.count k := by
  rw [handlesQueued_eq, List.count_flatMap, Fin.sum_univ_def]
  rfl

/-- The handles queued after one queue is written. -/
theorem count_handlesQueued_setQueue (s : State) (q : QueueIx) (x : Queue) (k : Block) :
    (setQueue q x s).handlesQueued.count k + (s.queue q).frames.count k = s.handlesQueued.count k + x.frames.count k := by
  rw [count_handlesQueued, count_handlesQueued, ← Finset.add_sum_erase _ _ (Finset.mem_univ q),
    ← Finset.add_sum_erase Finset.univ (fun p => (s.queue p).frames.count k) (Finset.mem_univ q)]
  have hothers : ∑ p ∈ Finset.univ.erase q, ((setQueue q x s).queue p).frames.count k =
      ∑ p ∈ Finset.univ.erase q, (s.queue p).frames.count k :=
    Finset.sum_congr rfl fun p hp => by rw [queue_setQueue, if_neg (Finset.ne_of_mem_erase hp)]
  rw [hothers, queue_setQueue_same]
  omega

/-- The handles received after one receiver is written. -/
theorem count_handlesReceived_setReceiver (s : State) (l : Line) (r : Receiver) (k : Block) :
    (setReceiver l r s).handlesReceived.count k + (s.receiver l).handle.toList.count k =
      s.handlesReceived.count k + r.handle.toList.count k := by
  cases l <;> simp only [State.handlesReceived, setReceiver, PerLine.set, State.receiver, PerLine.get, List.count_append] <;>
    omega

theorem mem_handlesReceived (s : State) (k : Block) : k ∈ s.handlesReceived ↔ ∃ l, (s.receiver l).handle = some k := by
  simp only [State.handlesReceived, List.mem_append, Option.mem_toList]
  constructor
  · rintro (h | h)
    · exact ⟨.a, h⟩
    · exact ⟨.b, h⟩
  · rintro ⟨l, h⟩
    cases l
    · exact .inl h
    · exact .inr h

theorem mem_framesHeld (s : State) (k : Block) :
    k ∈ s.framesHeld ↔ (∃ l, (s.receiver l).handle = some k) ∨ k ∈ s.framesComplete := by
  rw [← mem_handlesReceived, framesHeld_eq, ← framesComplete_eq, List.mem_append]

/-- R67: a transmitter that has a slot in flight has no data frame in flight. -/
theorem framesHeld_of_slotInFlight {s : State} {i : SlotIx} :
    (s.slotInFlight .a = some i → s.txA.framesHeld = []) ∧ (s.slotInFlight .b = some i → s.txB.framesHeld = []) := by
  have hslot : ∀ f : InFlight, f.slotHeld = some i → f.framesHeld = [] := by
    intro f hf
    cases f with
    | frame => cases hf
    | slot => rfl
  constructor
  · intro h
    cases ha : s.txA with
    | idle => rfl
    | sending f os => exact hslot f (by simpa only [State.slotInFlight, ha] using h)
  · intro h
    cases hb : s.txB with
    | idle => rfl
    | requesting f => exact hslot f (by simpa only [State.slotInFlight, hb] using h)
    | sending f os => exact hslot f (by simpa only [State.slotInFlight, hb] using h)
    | holdoff => rfl

/-! ### The blocks of safe states -/

theorem allBlocks_nodup : allBlocks.Nodup := List.nodup_ofFn.mpr fun _ _ h => h

/-- A list is part of the list of its elements' lists, where each begins with its element. -/
theorem sublist_flatMap_heads {α : Type} {f : α → List α} {xs : List α} (h : ∀ x ∈ xs, (f x).head? = some x) :
    xs.Sublist (xs.flatMap f) := by
  induction xs with
  | nil => exact .slnil
  | cons x xs ih =>
    have hx : [x].Sublist (f x) := List.singleton_sublist.mpr (List.mem_of_head? (h x (by simp)))
    exact hx.append (ih fun y hy => h y (List.mem_cons_of_mem x hy))

theorem BlocksSafe.places_nodup {s : State} (h : BlocksSafe s) : s.blockPlaces.Nodup :=
  h.everyBlockOnce.nodup_iff.mpr allBlocks_nodup

/-- R2: a handle stands in one place only. -/
theorem BlocksSafe.framesHeld_nodup {s : State} (h : BlocksSafe s) : s.framesHeld.Nodup :=
  (List.nodup_append.mp h.places_nodup).2.1.sublist (sublist_flatMap_heads h.chainsBegin)

theorem BlocksSafe.not_free {s : State} (h : BlocksSafe s) {k : Block} (hk : k ∈ s.framesHeld) : k ∉ s.store.free := by
  intro hfree
  exact (List.nodup_append.mp h.places_nodup).2.2 k hfree k
    (List.mem_flatMap.mpr ⟨k, hk, List.mem_of_head? (h.chainsBegin k hk)⟩) rfl

/-- R111: frames left their places, their chains to the free list, and no chain changed. -/
theorem BlocksSafe.of_released {s t : State} (h : BlocksSafe s) (hs : List Block)
    (hheld : ∀ k, s.framesHeld.count k = hs.count k + t.framesHeld.count k)
    (hfree : t.store.free.Perm (s.store.free ++ hs.flatMap fun k => (s.record k).chain))
    (hchain : ∀ k, (t.record k).chain = (s.record k).chain)
    (hrx : ∀ l, (t.receiver l).state ≠ .inFrame → (t.receiver l).handle = none) : BlocksSafe t := by
  have hperm : s.framesHeld.Perm (hs ++ t.framesHeld) :=
    List.perm_iff_count.mpr fun k => by rw [hheld, List.count_append]
  refine ⟨?_, fun k hk => ?_, hrx⟩
  · refine List.Perm.trans ?_ h.everyBlockOnce
    rw [State.blockPlaces, State.blockPlaces]
    simp only [hchain]
    refine (hfree.append_right _).trans ?_
    rw [List.append_assoc, ← List.flatMap_append]
    exact (hperm.flatMap_right _).symm.append_left _
  · rw [hchain]
    exact h.chainsBegin k (hperm.mem_iff.mpr (List.mem_append_right _ hk))

/-- R111: nothing of the free list, the frames held and their chains changed. -/
theorem BlocksSafe.congr {s t : State} (h : BlocksSafe s) (hheld : ∀ k, s.framesHeld.count k = t.framesHeld.count k)
    (hfree : t.store.free = s.store.free) (hchain : ∀ k, (t.record k).chain = (s.record k).chain)
    (hrx : ∀ l, (t.receiver l).state ≠ .inFrame → (t.receiver l).handle = none) : BlocksSafe t :=
  h.of_released [] (fun k => by simp [hheld k]) (by simp [hfree]) hchain hrx

/-- R126, R127: every block is free. -/
theorem BlocksSafe.of_empty {t : State} (hheld : t.framesHeld = []) (hfree : t.store.free = allBlocks)
    (hrx : ∀ l, (t.receiver l).handle = none) : BlocksSafe t :=
  ⟨by rw [State.blockPlaces, hheld, hfree]; simp, fun k hk => by simp [hheld] at hk, fun l _ => hrx l⟩

theorem framesHeld_of_empty {t : State} (hrx : ∀ l, (t.receiver l).handle = none) (hq : ∀ q, (t.queue q).frames = [])
    (ha : t.txA = .idle) (hb : t.txB = .idle) : t.framesHeld = [] := by
  rw [List.eq_nil_iff_forall_not_mem]
  intro k hk
  rw [mem_framesHeld, framesComplete_eq, ha, hb] at hk
  simp [hrx, mem_handlesQueued, hq, TxA.framesHeld, TxB.framesHeld] at hk

theorem coreReset_empty (strap : Octet) (s : State) : (coreReset strap s).framesHeld = [] :=
  framesHeld_of_empty (fun l => by cases l <;> rfl) (fun q => by rw [coreReset_queue]; rfl) rfl rfl

theorem trafficRestart_empty (s : State) : (trafficRestart s).framesHeld = [] := by
  refine framesHeld_of_empty (fun l => ?_) (fun q => by rw [trafficRestart_queue]) ?_ ?_ <;> rw [trafficRestart_frame]
  cases l <;> rfl

/-! ### An octet stored (R112, R114) -/

/-- The handles of the frames beside the one that a line is receiving. -/
def State.framesBeside (s : State) : Line → List Block
  | .a => s.rx.b.handle.toList ++ s.framesComplete
  | .b => s.rx.a.handle.toList ++ s.framesComplete

theorem framesHeld_perm_beside (s : State) (l : Line) :
    s.framesHeld.Perm ((s.receiver l).handle.toList ++ s.framesBeside l) := by
  refine List.perm_iff_count.mpr fun k => ?_
  cases l <;> simp only [State.framesHeld, State.framesBeside, State.receiver, PerLine.get, List.count_append] <;> omega

theorem receivedChain_eq_flatMap (s : State) (l : Line) :
    s.receivedChain l = (s.receiver l).handle.toList.flatMap fun k => (s.record k).chain := by
  cases hh : (s.receiver l).handle with
  | none => rw [receivedChain_of_none hh]; rfl
  | some h => simp [receivedChain_of_handle hh]

/-- R111: the blocks, with those of the frame that a line is receiving apart. -/
theorem blockPlaces_perm_beside (s : State) (l : Line) :
    s.blockPlaces.Perm (s.store.free ++ (s.receivedChain l ++ (s.framesBeside l).flatMap fun k => (s.record k).chain)) := by
  rw [receivedChain_eq_flatMap, ← List.flatMap_append]
  exact ((framesHeld_perm_beside s l).flatMap_right _).append_left _

/-- R2: the frame that a line is receiving, or that its next claim begins, is no other frame. -/
theorem BlocksSafe.not_beside {s : State} {l : Line} {h : Block} {claimed : List Block} (hsafe : BlocksSafe s)
    (hsame : ∀ g, (s.receiver l).handle = some g → g = h) (hfirst : (s.receiver l).handle = none → claimed = [h])
    (hfree : ∀ k ∈ claimed, k ∈ s.store.free) : h ∉ s.framesBeside l := by
  have hperm := framesHeld_perm_beside s l
  intro hmem
  cases hh : (s.receiver l).handle with
  | none =>
    refine hsafe.not_free (hperm.mem_iff.mpr (List.mem_append_right _ hmem)) (hfree h ?_)
    rw [hfirst hh]
    exact List.mem_singleton.mpr rfl
  | some g =>
    obtain rfl := hsame g hh
    rw [hh] at hperm
    exact (List.nodup_cons.mp (hperm.nodup_iff.mp hsafe.framesHeld_nodup)).1 hmem

/-- R112, R114: the blocks after an octet is stored: what was claimed has gone from the head of the free list to the tail
of the chain of the frame received. -/
theorem BlocksSafe.of_stored {s t : State} {l : Line} {h : Block} {claimed : List Block} (hsafe : BlocksSafe s)
    (hsame : ∀ g, (s.receiver l).handle = some g → g = h) (hfirst : (s.receiver l).handle = none → claimed = [h])
    (hfree : s.store.free = claimed ++ t.store.free) (hown : (t.receiver l).handle = some h)
    (hchain : (t.record h).chain = s.receivedChain l ++ claimed) (hbeside : t.framesBeside l = s.framesBeside l)
    (hothers : ∀ k, k ≠ h → t.record k = s.record k)
    (hrx : ∀ l, (t.receiver l).state ≠ .inFrame → (t.receiver l).handle = none) : BlocksSafe t := by
  have hnot : h ∉ s.framesBeside l := hsafe.not_beside hsame hfirst fun k hk => by simp [hfree, hk]
  have hkept : ∀ k ∈ s.framesBeside l, t.record k = s.record k := fun k hk =>
    hothers k fun hkh => hnot (hkh ▸ hk)
  refine ⟨?_, fun k hk => ?_, hrx⟩
  · have hplaces : (t.framesBeside l).flatMap (fun k => (t.record k).chain) =
        (s.framesBeside l).flatMap fun k => (s.record k).chain := by
      rw [hbeside]
      exact List.flatMap_congr fun k hk => by rw [hkept k hk]
    refine (blockPlaces_perm_beside t l).trans (List.Perm.trans ?_ ((blockPlaces_perm_beside s l).symm.trans
      hsafe.everyBlockOnce))
    rw [hplaces, receivedChain_of_handle hown, hchain, hfree]
    refine List.perm_iff_count.mpr fun k => ?_
    simp only [List.count_append]
    omega
  · rw [(framesHeld_perm_beside t l).mem_iff, hown, hbeside] at hk
    rcases List.mem_append.mp hk with hk | hk
    · obtain rfl : k = h := by simpa [eq_comm] using hk
      rw [hchain]
      cases hh : (s.receiver l).handle with
      | none => rw [receivedChain_of_none hh, hfirst hh]; rfl
      | some g =>
        obtain rfl := hsame g hh
        rw [receivedChain_of_handle hh, List.head?_append,
          hsafe.chainsBegin g ((mem_framesHeld s g).mpr (.inl ⟨l, hh⟩))]
        rfl
    · rw [hkept k hk]
      exact hsafe.chainsBegin k ((framesHeld_perm_beside s l).mem_iff.mpr (List.mem_append_right _ hk))

/-! ### Every move (R111) -/

/-- R111: one receiver written, its handle kept or dropped. -/
theorem heldInFrame_setReceiver {s : State} {l : Line} {r : Receiver} (h : BlocksSafe s)
    (hr : r.state ≠ .inFrame → r.handle = none) :
    ∀ l', ((setReceiver l r s).receiver l').state ≠ .inFrame → ((setReceiver l r s).receiver l').handle = none := by
  intro l'
  rw [receiver_setReceiver]
  split
  · exact hr
  · exact h.heldInFrame l'

/-- R111: one receiver written that holds the frame it held. -/
theorem BlocksSafe.of_receiver {s : State} {l : Line} {r : Receiver} (h : BlocksSafe s)
    (hhandle : r.handle = (s.receiver l).handle) (hr : r.state ≠ .inFrame → (s.receiver l).handle = none) :
    BlocksSafe (setReceiver l r s) := by
  refine h.congr (fun k => ?_) rfl (fun _ => rfl) (heldInFrame_setReceiver h fun hs => hhandle.trans (hr hs))
  have hreceived := count_handlesReceived_setReceiver s l r k
  rw [hhandle] at hreceived
  have hqueued : (setReceiver l r s).handlesQueued = s.handlesQueued := rfl
  simp only [count_framesHeld, setReceiver_txA, setReceiver_txB, hqueued]
  omega

theorem count_head_tail {xs : List Block} {h : Block} (hhead : xs.head? = some h) (k : Block) :
    xs.count k = xs.tail.count k + [h].count k := by
  cases xs with
  | nil => cases hhead
  | cons x xs =>
    obtain rfl := Option.some.inj hhead
    simp [List.count_cons]

/-- R6, R7, R66: one queue and the in-flight records written, the frames of them all the same. -/
theorem BlocksSafe.of_exchange {s t : State} {q : QueueIx} {x : Queue} {inA inB : List Block} (h : BlocksSafe s)
    (hq : t.queues = (setQueue q x s).queues) (hrx : t.rx = s.rx) (hstore : t.store = s.store)
    (ha : t.txA.framesHeld = inA) (hb : t.txB.framesHeld = inB)
    (hcount : ∀ k, (s.queue q).frames.count k + s.txA.framesHeld.count k + s.txB.framesHeld.count k =
      x.frames.count k + inA.count k + inB.count k) : BlocksSafe t := by
  refine h.congr (fun k => ?_) (by rw [hstore]) (fun k => by rw [State.record, hstore]; rfl)
    (fun l => by rw [State.receiver, hrx]; exact h.heldInFrame l)
  have hqueued : t.handlesQueued = (setQueue q x s).handlesQueued := by rw [State.handlesQueued, hq]; rfl
  have hreceived : t.handlesReceived = s.handlesReceived := by rw [State.handlesReceived, hrx]; rfl
  have := count_handlesQueued_setQueue s q x k
  have := hcount k
  simp only [count_framesHeld, hqueued, hreceived, ha, hb]
  omega

/-- R111: the receivers, the queues and the store untouched, and the frames in flight the same. -/
theorem BlocksSafe.of_transmitters {s t : State} (h : BlocksSafe s) (hq : t.queues = s.queues) (hrx : t.rx = s.rx)
    (hstore : t.store = s.store) (ha : t.txA.framesHeld = s.txA.framesHeld) (hb : t.txB.framesHeld = s.txB.framesHeld) :
    BlocksSafe t := by
  refine h.of_exchange (q := 0) (x := s.queue 0) ?_ hrx hstore ha hb fun k => rfl
  rw [hq, setQueue]
  exact (Vector.set_getElem_self ..).symm

theorem Move.keeps_blocks {s t : State} (hm : Move s t) (h : BlocksSafe s) : BlocksSafe t := by
  have hrest : ∀ {t : State}, t.queues = s.queues → t.rx = s.rx → t.store = s.store → t.txA = s.txA → t.txB = s.txB →
      BlocksSafe t := fun hq hrx hstore ha hb => h.of_transmitters hq hrx hstore (by rw [ha]) (by rw [hb])
  cases hm with
  | coreReset strap =>
    exact .of_empty (coreReset_empty strap s) (by simp only [Machine.coreReset, Store.rebuilt]) fun l => by cases l <;> rfl
  | trafficRestarted =>
    exact .of_empty (trafficRestart_empty s) (by simp only [trafficRestart_frame, Store.rebuilt])
      fun l => by rw [trafficRestart_frame]; cases l <;> rfl
  | receiverNoted l r hstate _ _ hhandle =>
    exact h.of_receiver hhandle fun hs => h.heldInFrame l (hstate ▸ hs)
  | receiverIdle l r hs _ hhandle =>
    have hnone := h.heldInFrame l hs
    exact h.of_receiver (hhandle.elim (fun hn => hn.trans hnone.symm) id) fun _ => hnone
  | frameBegun l r hs _ _ _ hhandle => exact h.of_receiver hhandle fun _ => h.heldInFrame l hs
  | octetHeld l r hs hr _ _ _ hhandle => exact h.of_receiver hhandle fun hn => absurd hr hn
  | octetStored l r k rec claimed rest a o armed hs hr _ _ _ hhandle hsame hfirst hfree _ hchain =>
    refine h.of_stored (l := l) hsame hfirst hfree (by simp [State.receiver, setReceiver, hhandle])
      (by simp [State.record, hchain]) ?_ (fun k' hk' => ?_) (heldInFrame_setReceiver (s := s) h fun hn => absurd hr hn)
    · cases l <;> rfl
    · simp [State.record, table_set_get, hk', -Fin.getElem_fin]
  | frameDropped l r armed hr hhandle =>
    refine h.of_released (s.receiver l).handle.toList (fun k => ?_) ?_ (fun _ => rfl)
      (heldInFrame_setReceiver (s := s) h fun _ => hhandle)
    · have hreceived := count_handlesReceived_setReceiver s l r k
      rw [hhandle] at hreceived
      have hrx : (setReceiver l r s).handlesReceived.count k + (s.receiver l).handle.toList.count k =
        s.handlesReceived.count k := hreceived
      simp only [count_framesHeld]
      change _ = _ + ((setReceiver l r s).handlesReceived.count k + s.handlesQueued.count k + s.txA.framesHeld.count k +
        s.txB.framesHeld.count k)
      omega
    · rw [receivedChain_eq_flatMap]
      exact .refl _
  | frameCompleted l k rec _ _ _ hchain =>
    refine h.congr (fun _ => rfl) rfl (fun k' => ?_) h.heldInFrame
    rw [record_setRecord]
    split
    · exact ‹k' = k› ▸ hchain
    · rfl
  | recordNoted k rec hchain =>
    refine h.congr (fun _ => rfl) rfl (fun k' => ?_) h.heldInFrame
    rw [record_setRecord]
    split
    · exact ‹k' = k› ▸ hchain
    · rfl
  | frameJoined l r k q hhandle _ hr hnone =>
    generalize hx : ({ s.queue q with frames := (s.queue q).frames ++ [k] } : Queue) = x
    refine h.congr (fun k' => ?_) rfl (fun _ => rfl) (heldInFrame_setReceiver (s := s) h fun _ => hnone)
    have hreceived := count_handlesReceived_setReceiver s l r k'
    have hqueued := count_handlesQueued_setQueue s q x k'
    have hframes : x.frames.count k' = (s.queue q).frames.count k' + [k].count k' := by rw [← hx, List.count_append]
    rw [hnone, hhandle, Option.toList_none, Option.toList_some, List.count_nil] at hreceived
    simp only [count_framesHeld]
    change _ = (setReceiver l r s).handlesReceived.count k' + (setQueue q x s).handlesQueued.count k' +
      s.txA.framesHeld.count k' + s.txB.framesHeld.count k'
    omega
  | queueWritten q x hframes =>
    exact h.of_exchange (inA := s.txA.framesHeld) (inB := s.txB.framesHeld) rfl rfl rfl rfl rfl fun k => by rw [hframes]
  | framesReleased n order queues free armed horder hframes _ hfree =>
    refine h.of_released (order.flatMap fun q => (s.queue q).frames.take (n q)) (fun k => ?_) (by rw [hfree])
      (fun _ => rfl) h.heldInFrame
    have hsplit : s.handlesQueued.Perm ((order.flatMap fun q => (s.queue q).frames.take (n q)) ++
        (List.finRange 8).flatMap fun q => queues[q].frames) := by
      rw [handlesQueued_eq]
      refine List.Perm.trans ?_ ((horder.symm.flatMap_right _).append_right _)
      refine List.Perm.trans (.of_eq ?_) (List.flatMap_append_perm _ _ _).symm
      exact List.flatMap_congr fun q _ => by rw [hframes, List.take_append_drop]
    have hcount := hsplit.count_eq k
    have hqueued := handlesQueued_eq { s with queues := queues, store := { s.store with free := free, armed := armed } }
    simp only [List.count_append] at hcount
    simp only [count_framesHeld, hqueued]
    change _ = _ + (s.handlesReceived.count k + ((List.finRange 8).flatMap fun q => queues[q].frames).count k +
      s.txA.framesHeld.count k + s.txB.framesHeld.count k)
    omega
  | frameDepartedA q k marked sponsor os hidle hhead =>
    refine h.of_exchange (q := q) (inA := [k]) (inB := s.txB.framesHeld) rfl rfl rfl rfl rfl fun k' => ?_
    have := count_head_tail hhead k'
    simp only [hidle, Queue.departed, TxA.framesHeld, List.count_nil]
    omega
  | frameDepartedB q k sponsor tx hidle hhead htx =>
    have hheld : tx.framesHeld = [k] := by rcases htx with rfl | ⟨os, rfl⟩ <;> rfl
    refine h.of_exchange (q := q) (inA := s.txA.framesHeld) rfl rfl rfl rfl hheld fun k' => ?_
    have := count_head_tail hhead k'
    simp only [hidle, Queue.departed, TxB.framesHeld, List.count_nil]
    omega
  | transmitterBStepped tx htx =>
    refine h.of_transmitters rfl rfl rfl rfl ?_
    rcases htx with ⟨f, hf, os, rfl⟩ | ⟨hn, -, rfl | rfl⟩
    · rw [hf]
      rfl
    · exact hn.symm
    · exact hn.symm
  | frameReleasedA q k marked sponsor os armed htx =>
    refine h.of_released [k] (fun k' => ?_) (by simp) (fun _ => rfl) h.heldInFrame
    simp only [count_framesHeld, htx]
    change s.handlesReceived.count k' + s.handlesQueued.count k' + [k].count k' + _ =
      _ + (s.handlesReceived.count k' + s.handlesQueued.count k' + 0 + s.txB.framesHeld.count k')
    omega
  | frameReleasedB k armed htx =>
    refine h.of_released [k] (fun k' => ?_) (by simp) (fun _ => rfl) h.heldInFrame
    simp only [count_framesHeld, htx]
    change s.handlesReceived.count k' + s.handlesQueued.count k' + s.txA.framesHeld.count k' + _ =
      _ + (s.handlesReceived.count k' + s.handlesQueued.count k' + s.txA.framesHeld.count k' + 0)
    omega
  | frameReturned q k marked htx =>
    refine h.of_exchange (q := q) (inA := s.txA.framesHeld) (inB := []) rfl rfl rfl rfl rfl fun k' => ?_
    simp only [htx, List.count_cons, List.count_nil]
    omega
  | slotSelectedA i os hidle => exact h.of_transmitters rfl rfl rfl (by rw [hidle]; rfl) rfl
  | slotSelectedB i tx hidle _ htx =>
    exact h.of_transmitters rfl rfl rfl rfl (by rw [hidle]; rcases htx with rfl | ⟨os, rfl⟩ <;> rfl)
  | slotEndedA i hi => exact h.of_transmitters rfl rfl rfl (by rw [framesHeld_of_slotInFlight.1 hi]; rfl) rfl
  | slotEndedB i n hi => exact h.of_transmitters rfl rfl rfl rfl (by rw [framesHeld_of_slotInFlight.2 hi]; rfl)
  | slotReturnedB i n hi => exact h.of_transmitters rfl rfl rfl rfl (by rw [framesHeld_of_slotInFlight.2 hi]; rfl)
  | _ => exact hrest rfl rfl rfl rfl rfl

/-- Settles O8: every move keeps the blocks in their places. -/
theorem stepKeepsEveryBlockInOnePlace : Obligations.StepKeepsEveryBlockInOnePlace :=
  fun _ _ => step_keeps (fun _ h => ⟨h.everyBlockOnce, h.chainsBegin, h.heldInFrame⟩) fun hm h => hm.keeps_blocks h

end Sys2Proof.Machine
end

section
/-! SUPPORT and CERTIFICATE. Chain lengths, frame lengths and decoded counts (R3, R113, R130), which stay in agreement with
one another where every block is in one place. -/

namespace Sys2Proof.Machine

/-- R3, R114: one octet more needs a block more exactly where the last block is full. -/
theorem chainLength_succ (n : Nat) : chainLength (n + 1) = chainLength n + if n % 64 = 0 then 1 else 0 := by
  unfold chainLength
  split <;> omega

theorem mem_framesComplete (s : State) (k : Block) :
    k ∈ s.framesComplete ↔ (∃ q, k ∈ (s.queue q).frames) ∨ k ∈ s.txA.framesHeld ∨ k ∈ s.txB.framesHeld := by
  rw [framesComplete_eq, List.mem_append, List.mem_append, mem_handlesQueued, or_assoc]

theorem framesHeld_of_framesComplete {s : State} {k : Block} (h : k ∈ s.framesComplete) : k ∈ s.framesHeld :=
  (mem_framesHeld s k).mpr (.inr h)

/-- R3, R113, R130: the frames held are among those held before, the complete ones complete, and no count changed. -/
theorem LengthsSafe.congr {s t : State} (h : LengthsSafe s)
    (hrx : ∀ l, (t.receiver l).state = .inFrame → (s.receiver l).state = .inFrame ∧
      (t.receiver l).decoded = (s.receiver l).decoded ∧ (t.receiver l).held = (s.receiver l).held ∧
      (t.receiver l).handle = (s.receiver l).handle)
    (hheld : ∀ l k, (t.receiver l).handle = some k → k ∈ s.framesHeld)
    (hcomplete : ∀ k ∈ t.framesComplete, k ∈ s.framesHeld ∧ 3 ≤ (s.record k).length)
    (hrec : ∀ k ∈ s.framesHeld, (t.record k).chain = (s.record k).chain ∧ (t.record k).length = (s.record k).length) :
    LengthsSafe t := by
  have hmem : ∀ k ∈ t.framesHeld, k ∈ s.framesHeld := by
    intro k hk
    rcases (mem_framesHeld t k).mp hk with ⟨l, hl⟩ | hk
    · exact hheld l k hl
    · exact (hcomplete k hk).1
  refine ⟨fun l hl => ?_, fun k hk => ?_, fun k hk => ?_⟩
  · obtain ⟨hstate, hdecoded, hheldOctets, hhandle⟩ := hrx l hl
    have hlength : t.receivedLength l = s.receivedLength l := by
      cases hh : (s.receiver l).handle with
      | none => rw [receivedLength_of_none hh, receivedLength_of_none (hhandle.trans hh)]
      | some k =>
        rw [receivedLength_of_handle hh, receivedLength_of_handle (hhandle.trans hh)]
        exact (hrec k ((mem_framesHeld s k).mpr (.inl ⟨l, hh⟩))).2
    rw [hdecoded, hheldOctets, hhandle, hlength]
    exact h.decodedCount l hstate
  · obtain ⟨hchain, hlength⟩ := hrec k (hmem k hk)
    rw [hchain, hlength]
    exact h.chainLengths k (hmem k hk)
  · obtain ⟨hk, hthree⟩ := hcomplete k hk
    rw [(hrec k hk).2]
    exact hthree

/-- R3, R113: the same receivers and records, and no frame in a queue or in flight that was not. -/
theorem LengthsSafe.of_complete {s t : State} (h : LengthsSafe s) (hrx : t.rx = s.rx)
    (hrec : ∀ k, (t.record k).chain = (s.record k).chain ∧ (t.record k).length = (s.record k).length)
    (hcomplete : ∀ k ∈ t.framesComplete, k ∈ s.framesComplete) : LengthsSafe t := by
  have hreceiver : ∀ l, t.receiver l = s.receiver l := fun l => by rw [State.receiver, hrx]; rfl
  exact h.congr (fun l hl => by rw [hreceiver] at hl ⊢; exact ⟨hl, rfl, rfl, rfl⟩)
    (fun l k hk => (mem_framesHeld s k).mpr (.inl ⟨l, hreceiver l ▸ hk⟩))
    (fun k hk => ⟨framesHeld_of_framesComplete (hcomplete k hk), h.completeLengths k (hcomplete k hk)⟩) fun k _ => hrec k

/-- R3, R113, R130: one receiver written, whatever it then counts. -/
theorem LengthsSafe.of_receiver {s : State} {l : Line} {r : Receiver} (h : LengthsSafe s)
    (hhandle : ∀ k, r.handle = some k → (s.receiver l).handle = some k)
    (hcounts : r.state = .inFrame → r.decoded = r.held.length + (setReceiver l r s).receivedLength l ∧ r.held.length ≤ 2 ∧
      (r.held.length < 2 → r.handle = none)) : LengthsSafe (setReceiver l r s) := by
  have hmem : ∀ k ∈ (setReceiver l r s).framesHeld, k ∈ s.framesHeld := by
    intro k hk
    rw [mem_framesHeld] at hk ⊢
    refine hk.imp_left ?_
    rintro ⟨l', hl'⟩
    rw [receiver_setReceiver] at hl'
    split at hl'
    · exact ⟨l, hhandle k hl'⟩
    · exact ⟨l', hl'⟩
  refine ⟨fun l' hl' => ?_, fun k hk => h.chainLengths k (hmem k hk), h.completeLengths⟩
  by_cases hll : l' = l
  · subst hll
    rw [receiver_setReceiver_same] at hl' ⊢
    exact hcounts hl'
  · have hsame : (setReceiver l r s).receiver l' = s.receiver l' := by rw [receiver_setReceiver, if_neg hll]
    have hlength : (setReceiver l r s).receivedLength l' = s.receivedLength l' := by
      simp only [State.receivedLength, hsame]
      rfl
    rw [hsame] at hl' ⊢
    rw [hlength]
    exact h.decodedCount l' hl'

/-- What the invariants that R3 and R113 rest on say together. -/
structure StoreSafe (s : State) : Prop where
  blocks : BlocksSafe s
  settings : s.settings.inRange = true
  lengths : LengthsSafe s

/-- R114: an octet stored. -/
theorem StoreSafe.lengths_of_stored {s t : State} {l : Line} {r : Receiver} {h : Block} {claimed : List Block}
    (hsafe : StoreSafe s) (hs : (s.receiver l).state = .inFrame) (hrx : t.rx = s.rx.set l r)
    (hdecoded : r.decoded = (s.receiver l).decoded + 1) (hheld : r.held.length = (s.receiver l).held.length)
    (htwo : 2 ≤ (s.receiver l).held.length) (hhandle : r.handle = some h)
    (hnot : h ∉ s.framesBeside l) (hclaimed : claimed.length = if s.receivedLength l % 64 = 0 then 1 else 0)
    (hchain : (t.record h).chain = s.receivedChain l ++ claimed) (hlength : (t.record h).length = s.receivedLength l + 1)
    (hmax : (t.record h).length ≤ s.settings.maxFrameLength) (hothers : ∀ k, k ≠ h → t.record k = s.record k)
    (hsame : ∀ g, (s.receiver l).handle = some g → g = h) (hcomplete : t.framesComplete = s.framesComplete) :
    LengthsSafe t := by
  have hlen := hsafe.lengths
  have hreceiver : ∀ l', t.receiver l' = if l' = l then r else s.receiver l' := fun l' => by
    rw [State.receiver, hrx]
    exact perLine_get_set ..
  have hbeside : ∀ k ∈ s.framesBeside l, k ≠ h := fun k hk hkh => hnot (hkh ▸ hk)
  have hreceived : (s.receivedChain l).length = chainLength (s.receivedLength l) := by
    cases hh : (s.receiver l).handle with
    | none => rw [receivedChain_of_none hh, receivedLength_of_none hh]; rfl
    | some g =>
      rw [receivedChain_of_handle hh, receivedLength_of_handle hh]
      exact (hlen.chainLengths g ((mem_framesHeld s g).mpr (.inl ⟨l, hh⟩))).1
  have hrange : s.settings.maxFrameLength ≤ 1023 := by
    have := hsafe.settings
    simp only [Settings.inRange, Bool.and_eq_true, decide_eq_true_eq] at this
    omega
  refine ⟨fun l' hl' => ?_, fun k hk => ?_, fun k hk => ?_⟩
  · by_cases hll : l' = l
    · subst hll
      have hr : t.receiver l' = r := by rw [hreceiver, if_pos rfl]
      obtain ⟨hcount, hle, -⟩ := hlen.decodedCount l' hs
      rw [receivedLength_of_handle (hr ▸ hhandle), hr, hlength, hdecoded, hheld]
      exact ⟨by omega, hle, fun hlt => absurd hlt (by omega)⟩
    · have hr : t.receiver l' = s.receiver l' := by rw [hreceiver, if_neg hll]
      have hlength' : t.receivedLength l' = s.receivedLength l' := by
        cases hh : (s.receiver l').handle with
        | none => rw [receivedLength_of_none hh, receivedLength_of_none (hr ▸ hh)]
        | some g =>
          have hg : g ∈ s.framesBeside l := by
            cases l <;> cases l' <;> simp_all [State.framesBeside, State.receiver, PerLine.get]
          rw [receivedLength_of_handle hh, receivedLength_of_handle (hr ▸ hh), hothers g (hbeside g hg)]
      rw [hr] at hl' ⊢
      rw [hlength']
      exact hlen.decodedCount l' hl'
  · by_cases hkh : k = h
    · subst hkh
      rw [hchain, hlength, List.length_append, hclaimed, hreceived, chainLength_succ]
      exact ⟨rfl, by omega, by omega⟩
    · rw [hothers k hkh]
      refine hlen.chainLengths k ?_
      rw [mem_framesHeld] at hk ⊢
      rw [hcomplete] at hk
      refine hk.imp_left ?_
      rintro ⟨l', hl'⟩
      rw [hreceiver] at hl'
      split at hl'
      · exact absurd (Option.some.inj (hl'.symm.trans hhandle)) hkh
      · exact ⟨l', hl'⟩
  · rw [hcomplete] at hk
    have hkb : k ∈ s.framesBeside l := by cases l <;> exact List.mem_append_right _ hk
    rw [hothers k (hbeside k hkb)]
    exact hlen.completeLengths k hk

/-- R117: the frame length written at completion is the one the record has. -/
theorem LengthsSafe.completed_length {s : State} {l : Line} {h : Block} (hsafe : LengthsSafe s)
    (hs : (s.receiver l).state = .inFrame) (hhandle : (s.receiver l).handle = some h) :
    (s.receiver l).decoded - 2 = (s.record h).length := by
  obtain ⟨hcount, hle, hshort⟩ := hsafe.decodedCount l hs
  rw [receivedLength_of_handle hhandle] at hcount
  have : ¬(s.receiver l).held.length < 2 := fun hlt => by simp [hhandle] at hshort; omega
  omega

theorem setRecord_kept {s : State} {h : Block} {rec : FrameRecord} (hchain : rec.chain = (s.record h).chain)
    (hlength : rec.length = (s.record h).length) (k : Block) :
    ((setRecord h rec s).record k).chain = (s.record k).chain ∧
      ((setRecord h rec s).record k).length = (s.record k).length := by
  rw [record_setRecord]
  split
  · rename_i hk
    subst hk
    exact ⟨hchain, hlength⟩
  · exact ⟨rfl, rfl⟩

/-- One queue and the in-flight records written, with complete frames only. -/
theorem framesComplete_setQueue {s t : State} {q : QueueIx} {x : Queue} (hq : t.queues = (setQueue q x s).queues)
    (hx : ∀ k ∈ x.frames, k ∈ s.framesComplete) (ha : ∀ k ∈ t.txA.framesHeld, k ∈ s.framesComplete)
    (hb : ∀ k ∈ t.txB.framesHeld, k ∈ s.framesComplete) : ∀ k ∈ t.framesComplete, k ∈ s.framesComplete := by
  intro k hk
  rcases (mem_framesComplete t k).mp hk with ⟨p, hp⟩ | hk | hk
  · rw [State.queue, hq, ← State.queue, queue_setQueue] at hp
    split at hp
    · exact hx k hp
    · exact (mem_framesComplete s k).mpr (.inl ⟨p, hp⟩)
  · exact ha k hk
  · exact hb k hk

/-- The in-flight records written, with frames that were in flight. -/
theorem framesComplete_transmitters {s t : State} (hq : t.queues = s.queues)
    (ha : ∀ k ∈ t.txA.framesHeld, k ∈ s.txA.framesHeld) (hb : ∀ k ∈ t.txB.framesHeld, k ∈ s.txB.framesHeld) :
    ∀ k ∈ t.framesComplete, k ∈ s.framesComplete := by
  intro k hk
  have hqueues : t.handlesQueued = s.handlesQueued := by rw [State.handlesQueued, hq]; rfl
  rw [framesComplete_eq, List.mem_append, List.mem_append] at *
  rw [hqueues] at hk
  exact hk.imp (Or.imp_right (ha k)) (hb k)

theorem Move.keeps_lengths {s t : State} (hm : Move s t) (hsafe : StoreSafe s) : LengthsSafe t := by
  have h := hsafe.lengths
  have hrest : ∀ {t : State}, t.rx = s.rx → t.store = s.store → (∀ k ∈ t.framesComplete, k ∈ s.framesComplete) →
      LengthsSafe t := fun hrx hstore hcomplete =>
    h.of_complete hrx (fun k => by rw [State.record, hstore]; exact ⟨rfl, rfl⟩) hcomplete
  have hkept : ∀ k, (s.record k).chain = (s.record k).chain ∧ (s.record k).length = (s.record k).length :=
    fun _ => ⟨rfl, rfl⟩
  have hempty : ∀ {t : State}, t.framesHeld = [] → (∀ l, (t.receiver l).state ≠ .inFrame) → LengthsSafe t :=
    fun ht hrx => ⟨fun l hl => absurd hl (hrx l), fun k hk => by simp [ht] at hk,
      fun k hk => by have := framesHeld_of_framesComplete hk; simp [ht] at this⟩
  have hqueued : ∀ q, ∀ k ∈ (s.queue q).frames, k ∈ s.framesComplete := fun q k hk =>
    (mem_framesComplete s k).mpr (.inl ⟨q, hk⟩)
  have hflightA : ∀ k ∈ s.txA.framesHeld, k ∈ s.framesComplete := fun k hk =>
    (mem_framesComplete s k).mpr (.inr (.inl hk))
  have hflightB : ∀ k ∈ s.txB.framesHeld, k ∈ s.framesComplete := fun k hk =>
    (mem_framesComplete s k).mpr (.inr (.inr hk))
  cases hm with
  | coreReset strap =>
    exact hempty (coreReset_empty strap s) fun l => by
      cases l <;> simp [Machine.coreReset, State.receiver, PerLine.get, Receiver.seeking]
  | trafficRestarted =>
    exact hempty (trafficRestart_empty s) fun l => by
      rw [trafficRestart_frame]
      cases l <;> simp [State.receiver, PerLine.get, Receiver.seeking]
  | receiverNoted l r hstate hdecoded hheld hhandle =>
    refine h.of_receiver (fun k hk => hhandle ▸ hk) fun hs => ?_
    rw [receivedLength_setReceiver hhandle, hdecoded, hheld, hhandle]
    exact h.decodedCount l (hstate ▸ hs)
  | receiverIdle l r hs hr hhandle =>
    exact h.of_receiver (fun k hk => by
      rcases hhandle with hn | hn
      · simp [hn] at hk
      · exact hn ▸ hk) fun hs => absurd hs hr
  | frameBegun l r hs hdecoded hheld hr hhandle =>
    have hnone : r.handle = none := hhandle.trans (hsafe.blocks.heldInFrame l hs)
    refine h.of_receiver (fun k hk => by simp [hnone] at hk) fun _ => ?_
    rw [receivedLength_of_none (by rw [receiver_setReceiver_same]; exact hnone), hdecoded, hheld]
    exact ⟨rfl, by simp, fun _ => hnone⟩
  | octetHeld l r hs hr hdecoded hheld hroom hhandle =>
    obtain ⟨hcount, -, hshort⟩ := h.decodedCount l hs
    refine h.of_receiver (fun k hk => hhandle ▸ hk) fun _ => ?_
    rw [receivedLength_setReceiver hhandle, hdecoded, hheld, hhandle]
    exact ⟨by omega, by omega, fun _ => hshort hroom⟩
  | octetStored l r k rec claimed rest a o armed hs hr hdecoded hheld htwo hhandle hsame hfirst hfree hclaimed hchain
      hlength hmax =>
    refine hsafe.lengths_of_stored (h := k) hs rfl hdecoded hheld htwo hhandle
      (hsafe.blocks.not_beside hsame hfirst fun b hb => by simp [hfree, hb]) hclaimed ?_ ?_ ?_ (fun k' hk' => ?_) hsame rfl
    · simp [State.record, hchain]
    · simp [State.record, hlength]
    · simpa [State.record] using hmax
    · simp [State.record, table_set_get, hk', -Fin.getElem_fin]
  | frameDropped l r armed hr hhandle =>
    exact (h.of_receiver (l := l) (r := r) (fun k hk => by simp [hhandle] at hk) fun hs => absurd hs hr).of_complete rfl
      (fun _ => ⟨rfl, rfl⟩) fun _ hk => hk
  | frameCompleted l k rec hs hhandle _ hchain hlength =>
    exact h.of_complete rfl (setRecord_kept hchain (hlength.trans (h.completed_length hs hhandle))) fun _ hk => hk
  | recordNoted k rec hchain hlength => exact h.of_complete rfl (setRecord_kept hchain hlength) fun _ hk => hk
  | frameJoined l r k q hhandle hlength hr hnone =>
    refine h.congr (fun l' hl' => ?_) (fun l' k' hk' => ?_) (fun k' hk' => ?_) fun k' _ => hkept k'
    · change ((setReceiver l r s).receiver l').state = _ at hl'
      change _ ∧ ((setReceiver l r s).receiver l').decoded = _ ∧ ((setReceiver l r s).receiver l').held = _ ∧
        ((setReceiver l r s).receiver l').handle = _
      rw [receiver_setReceiver] at hl' ⊢
      split at hl' <;> rename_i hl
      · exact absurd hl' hr
      · rw [if_neg hl]
        exact ⟨hl', rfl, rfl, rfl⟩
    · change ((setReceiver l r s).receiver l').handle = _ at hk'
      rw [receiver_setReceiver] at hk'
      split at hk'
      · simp [hnone] at hk'
      · exact (mem_framesHeld s k').mpr (.inl ⟨l', hk'⟩)
    · rcases (mem_framesComplete _ k').mp hk' with ⟨p, hp⟩ | hp
      · rw [show (setReceiver l r (setQueue q { s.queue q with frames := (s.queue q).frames ++ [k] } s)).queue p =
          (setQueue q { s.queue q with frames := (s.queue q).frames ++ [k] } s).queue p from rfl, queue_setQueue] at hp
        split at hp
        · rcases List.mem_append.mp hp with hp | hp
          · have hc := (mem_framesComplete s k').mpr (.inl ⟨q, hp⟩)
            exact ⟨framesHeld_of_framesComplete hc, h.completeLengths k' hc⟩
          · obtain rfl := List.mem_singleton.mp hp
            exact ⟨(mem_framesHeld s k').mpr (.inl ⟨l, hhandle⟩), hlength⟩
        · have hc := (mem_framesComplete s k').mpr (.inl ⟨p, hp⟩)
          exact ⟨framesHeld_of_framesComplete hc, h.completeLengths k' hc⟩
      · have hc := (mem_framesComplete s k').mpr (.inr hp)
        exact ⟨framesHeld_of_framesComplete hc, h.completeLengths k' hc⟩
  | queueWritten q x hframes =>
    exact hrest rfl rfl (framesComplete_setQueue rfl (fun k hk => hqueued q k (hframes ▸ hk)) hflightA hflightB)
  | framesReleased n order queues free armed horder hframes =>
    refine h.of_complete rfl hkept fun k hk => ?_
    rcases (mem_framesComplete _ k).mp hk with ⟨q, hq⟩ | hk
    · refine hqueued q k (List.mem_of_mem_drop (i := n q) ?_)
      rw [← hframes]
      exact hq
    · exact (mem_framesComplete s k).mpr (.inr hk)
  | frameDepartedA q k marked sponsor os hidle hhead =>
    refine hrest rfl rfl (framesComplete_setQueue rfl (fun k' hk' => hqueued q k' (List.mem_of_mem_tail hk'))
      (fun k' hk' => ?_) hflightB)
    obtain rfl := List.mem_singleton.mp hk'
    exact hqueued q k' (List.mem_of_head? hhead)
  | frameDepartedB q k sponsor tx hidle hhead htx =>
    refine hrest rfl rfl (framesComplete_setQueue rfl (fun k' hk' => hqueued q k' (List.mem_of_mem_tail hk'))
      hflightA fun k' hk' => ?_)
    have hheld : tx.framesHeld = [k] := by rcases htx with rfl | ⟨os, rfl⟩ <;> rfl
    obtain rfl := List.mem_singleton.mp (hheld ▸ hk')
    exact hqueued q k' (List.mem_of_head? hhead)
  | transmitterBStepped tx htx =>
    refine hrest rfl rfl (framesComplete_transmitters rfl (fun _ hk => hk) fun k hk => ?_)
    rcases htx with ⟨f, hf, os, rfl⟩ | ⟨-, -, rfl | rfl⟩
    · rw [hf]
      exact hk
    · simp [TxB.framesHeld] at hk
    · simp [TxB.framesHeld] at hk
  | frameReleasedA =>
    exact h.of_complete rfl hkept (framesComplete_transmitters rfl (by simp [TxA.framesHeld]) fun _ hk => hk)
  | frameReleasedB =>
    exact h.of_complete rfl hkept (framesComplete_transmitters rfl (fun _ hk => hk) (by simp [TxB.framesHeld]))
  | frameReturned q k marked htx =>
    refine hrest rfl rfl (framesComplete_setQueue (q := q) rfl (fun k' hk' => ?_) hflightA (by simp [TxB.framesHeld]))
    rcases List.mem_cons.mp hk' with rfl | hk'
    · exact hflightB k' (by simp [htx])
    · exact hqueued q k' hk'
  | slotSelectedA => exact hrest rfl rfl (framesComplete_transmitters rfl (fun _ hk => by cases hk) fun _ hk => hk)
  | slotSelectedB i tx _ _ htx =>
    have hheld : tx.framesHeld = [] := by rcases htx with rfl | ⟨os, rfl⟩ <;> rfl
    exact hrest rfl rfl (framesComplete_transmitters rfl (fun _ hk => hk) (by simp [hheld]))
  | slotEndedA => exact hrest rfl rfl (framesComplete_transmitters rfl (by simp [TxA.framesHeld]) fun _ hk => hk)
  | slotEndedB => exact hrest rfl rfl (framesComplete_transmitters rfl (fun _ hk => hk) (by simp [TxB.framesHeld]))
  | slotReturnedB => exact hrest rfl rfl (framesComplete_transmitters rfl (fun _ hk => hk) (by simp [TxB.framesHeld]))
  | _ => exact hrest rfl rfl fun _ hk => hk

theorem Move.keeps_store {s t : State} (hm : Move s t) (h : StoreSafe s) : StoreSafe t :=
  ⟨hm.keeps_blocks h.blocks, hm.keeps_settings h.settings, hm.keeps_lengths h⟩

/-- Settles O9: every move keeps the lengths, with the blocks in their places and the settings in range. -/
theorem stepKeepsFrameLengths : Obligations.StepKeepsFrameLengths := by
  intro s t hblocks hsettings hlengths hst
  refine StoreSafe.lengths (step_keeps (P := StoreSafe) (fun _ h => ?_) (fun hm h => hm.keeps_store h)
    ⟨hblocks, hsettings, hlengths⟩ hst)
  obtain ⟨hb, hs, hl⟩ := h
  exact ⟨⟨hb.everyBlockOnce, hb.chainsBegin, hb.heldInFrame⟩, hs,
    ⟨hl.decodedCount, hl.chainLengths, hl.completeLengths⟩⟩

/-! ### Blocks counted (R3, R20) -/

/-- R20: a frame of 1 to 1023 octets has 1 to 16 blocks. -/
theorem chainLength_range {n : Nat} (h1 : 1 ≤ n) (h2 : n ≤ 1023) : 1 ≤ chainLength n ∧ chainLength n ≤ 16 := by
  unfold chainLength
  omega

theorem sum_map_range {α : Type} {xs : List α} {f : α → Nat} {m : Nat} (h : ∀ x ∈ xs, 1 ≤ f x ∧ f x ≤ m) :
    xs.length ≤ (xs.map f).sum ∧ (xs.map f).sum ≤ m * xs.length := by
  have hm : (xs.map f).sum ≤ (xs.map f).length • m :=
    List.sum_le_card_nsmul _ m fun y hy => by
      obtain ⟨x, hx, rfl⟩ := List.mem_map.mp hy
      exact (h x hx).2
  have h1 : (xs.map f).length • 1 ≤ (xs.map f).sum :=
    List.card_nsmul_le_sum _ 1 fun y hy => by
      obtain ⟨x, hx, rfl⟩ := List.mem_map.mp hy
      exact (h x hx).1
  simp only [List.length_map, smul_eq_mul, mul_one] at hm h1
  exact ⟨h1, by rwa [mul_comm]⟩

/-- Settles O15: a handle begins its own chain, and a frame's length determines the length of its chain. -/
theorem handlesHeldOnceAndBlocksCounted : Obligations.HandlesHeldOnceAndBlocksCounted := by
  refine ⟨fun s h => h.framesHeld_nodup, fun s q h => ?_⟩
  have hheld : ∀ k ∈ (s.queue q).frames, k ∈ s.framesHeld := fun k hk =>
    framesHeld_of_framesComplete ((mem_framesComplete s k).mpr (.inl ⟨q, hk⟩))
  refine ⟨?_, sum_map_range fun k hk => ?_⟩
  · rw [State.blocksHeld, List.map_congr_left fun k hk => (h.chainLengths k (hheld k hk)).1.symm]
  · obtain ⟨-, h1, h2⟩ := h.chainLengths k (hheld k hk)
    exact chainLength_range h1 h2

end Sys2Proof.Machine
end

section
/-! SUPPORT and CERTIFICATE. The request event (R153 to R158): what becomes of a request that is ready, of a duplicate, an
overrun and a request during a restart, and of one that line B's authority stops. -/

namespace Sys2Proof.Machine

/-! ### Every ready request (R150, R158, R168) -/

theorem Effect.mgmt_eq {l : Line} {i : SlotIx} {s u : State} (h : Effect l i s u) : u.mgmt = s.mgmt := by
  rcases h.reaches with ⟨sc, rfl⟩ | ⟨-, hm, -⟩
  · rfl
  · exact hm

/-- R168: the two ways a code of any kind replies. -/
theorem runOf_replies (code : Octet) (l : Line) (i : SlotIx) (ps : List Octet) (s : State) :
    (paramLength code ≠ some ps.length ∧ runOf code l i ps s = refuse .badRequest s) ∨
      (paramLength code = some ps.length ∧ Replies (Effect l i) s (runOf code l i ps s)) := by
  rcases runOf_answers code with ⟨hnone, hrun⟩ | ⟨n, hn, hans⟩
  · exact .inl ⟨by simp [hnone], by rw [hrun]; rfl⟩
  · by_cases hps : ps.length = n
    · exact .inr ⟨by rw [hn, hps], hans.replies l i ps s hps⟩
    · exact .inl ⟨by simp [hn, Ne.symm hps], hans.form l i ps s hps⟩

/-- Settles O21: a ready request is executed by the run of its code, which refuses or replies after an effect. -/
theorem everyReadyRequestIsAnswered : Obligations.EveryReadyRequestIsAnswered := by
  intro r i s hready
  have hmgmt := (runOf_effect r.code r.line i r.params s).mgmt_eq
  have hread := fun h => runOf_state_of_read (code := r.code) (ps := r.params) h r.line i s
  have hexec : exec (requestInstr r) s = .next (execute (runOf r.code) r i s) :=
    (exec_requestInstr r s).trans (requestCommand_ready hready)
  refine ⟨_, _, _, _, hexec, execute_answered hmgmt hready.slot, hmgmt, ?_, hread, ?_⟩
  · intro hst
    rw [if_neg hst]
    refine ⟨?_, rfl⟩
    rcases runOf_replies r.code r.line i r.params s with ⟨-, hrun⟩ | ⟨-, hreply⟩
    · rw [hrun]
      rfl
    · generalize runOf r.code r.line i r.params s = reply at hreply hst
      cases hreply with
      | refused => rfl
      | carriedOut => exact absurd rfl hst
  · rcases runOf_replies r.code r.line i r.params s with ⟨hlen, hrun⟩ | ⟨hlen, hreply⟩
    · rw [hrun]
      exact iff_of_true hlen rfl
    · refine iff_of_false (not_not.mpr hlen) ?_
      generalize runOf r.code r.line i r.params s = reply at hreply
      cases hreply with
      | refused st _ hform => exact hform
      | carriedOut => exact fun h => by cases h

/-! ### Duplicates, overruns, a pending restart (R155 to R157) -/

theorem exec_authorised {r : Request} {s : State} (h : Authorised s r) :
    exec (requestInstr r) s = .next (takeAuthorised (runOf r.code) r s) :=
  (exec_requestInstr r s).trans (requestCommand_authorised h)

theorem isDuplicate_of_cache {g : LineAgent} {c : Cache} {seq code : Octet} (hc : g.cache = some c) (hseq : c.seq = seq)
    (hcode : c.code = code) : g.isDuplicate seq code = true := by
  simp [LineAgent.isDuplicate, hc, hseq, hcode]

/-- R155: a duplicate. -/
theorem takeAuthorised_duplicate {run : Execution} {r : Request} {s : State}
    (h : (s.agent r.line).isDuplicate r.seq r.code = true) :
    takeAuthorised run r s = setAgent r.line (s.agent r.line).afterDuplicate (bump (.mgmt .duplicates) s) := if_pos h

/-- R156, R157: no duplicate. -/
theorem takeAuthorised_fresh {run : Execution} {r : Request} {s : State}
    (h : (s.agent r.line).isDuplicate r.seq r.code = false) : takeAuthorised run r s = takeWithSlot run r s := by
  rw [takeAuthorised, if_neg (by simp [h])]

theorem setAgent_self (l : Line) (s : State) : setAgent l (s.agent l) s = s := by
  simp [setAgent, State.agent]

theorem afterDuplicate_sent {g : LineAgent} {c : Cache} (hc : g.cache = some c) (hs : g.slots[c.slot].state = .cached) :
    g.afterDuplicate = g.requeue c.slot := by
  simp only [LineAgent.afterDuplicate, hc, if_pos hs]

theorem afterDuplicate_left {g : LineAgent} {c : Cache} (hc : g.cache = some c) (hs : g.slots[c.slot].state ≠ .cached) :
    g.afterDuplicate = g := by
  simp only [LineAgent.afterDuplicate, hc, if_neg hs]

/-- Settles O22: each of the three is one branch of steps 2 to 4. -/
theorem duplicateOverrunAndBusy : Obligations.DuplicateOverrunAndBusy := by
  refine ⟨fun r c s hauth hcache hseq hcode => ?_, fun r s hauth hfresh hfull => ?_,
    fun r i s hauth hfresh hfree hfirst hrestart => ?_⟩
  · have hdup := isDuplicate_of_cache hcache hseq hcode
    obtain ⟨hcounted, huncounted⟩ := counted_one (c := .mgmt .duplicates) (n := 1) (s := s)
      (t := setAgent r.line (s.agent r.line).afterDuplicate (bump (.mgmt .duplicates) s)) rfl
    refine ⟨_, (exec_authorised hauth).trans (congrArg _ (takeAuthorised_duplicate hdup)), rfl, hcounted, huncounted,
      fun l hl => ?_, fun hs => ?_, fun hs => ?_⟩
    · rw [agent_setAgent, if_neg hl]
      rfl
    · rw [afterDuplicate_left hcache hs]
      have hself := congrArg State.mgmt (setAgent_self r.line s)
      exact hself
    · rw [agent_setAgent_same, afterDuplicate_sent hcache hs]
      refine ⟨hcache, rfl, table_set_get_same .., fun j hj => ?_⟩
      rw [LineAgent.requeue, table_set_get, if_neg hj]
  · have htake : takeAuthorised (runOf r.code) r s = bump (.mgmt .overruns) s := by
      rw [takeAuthorised_fresh hfresh, takeWithSlot, firstFree_eq_none.mpr hfull]
    obtain ⟨hcounted, huncounted⟩ := counted_one (c := .mgmt .overruns) (n := 1) (s := s)
      (t := bump (.mgmt .overruns) s) rfl
    exact ⟨_, (exec_authorised hauth).trans (congrArg _ htake), rfl, hcounted, huncounted⟩
  · have hpending : s.restartPending = true := by simpa [State.restartPending] using hrestart
    have htake : takeAuthorised (runOf r.code) r s = answer r i .busy [] s := by
      simp only [takeAuthorised_fresh hfresh, takeWithSlot, firstFree_eq_some hfree hfirst, if_pos hpending]
    exact ⟨_, (exec_authorised hauth).trans (congrArg _ htake), rfl, answer_placed r i .busy [] s⟩

/-! ### Line B's authority (R154, R169) -/

theorem exec_unauthorised {r : Request} {s : State} (hp : s.supply = .main) (hm : s.managed = true) :
    exec (requestInstr r) s = .next (takeRequest (runOf r.code) r s) := by
  rw [exec_requestInstr, requestCommand, inCore_eq, if_pos hp, if_pos hm]

theorem managed_iff (s : State) : s.managed = true ↔ 0x01 ≤ s.station.toNat ∧ s.station.toNat ≤ 0xFE := by
  have h0 : s.station = 0x00 ↔ s.station.toNat = 0 := BitVec.toNat_inj.symm
  have h255 : s.station = 0xFF ↔ s.station.toNat = 255 := BitVec.toNat_inj.symm
  have hlt := s.station.isLt
  simp only [State.managed, Bool.and_eq_true, bne_iff_ne, ne_eq, h0, h255]
  omega

theorem requestClass_remoteAccess_iff (code : Octet) (ps : List Octet) :
    requestClass code ps = .remoteAccess ↔ code = 0x04 := by
  unfold requestClass
  split_ifs with h4
  · exact iff_of_true rfl h4
  all_goals exact iff_of_false (by simp) h4

/-- R169, R209: the write-class requests. -/
theorem requestClass_write_iff (code : Octet) (ps : List Octet) :
    requestClass code ps = .write ↔ code ∈ writeCodes ∨ (code = 0x63 ∧ ps[3]? = some 1) := by
  have h63 : (0x63 : Octet) ∉ writeCodes := by decide
  have h04 : (0x04 : Octet) ∉ writeCodes := by decide
  unfold requestClass
  split_ifs with h4 h6 hflag hmem
  · subst h4
    exact iff_of_false (by simp) fun h => h.elim h04 fun ⟨h, _⟩ => absurd h (by decide)
  · exact iff_of_true rfl (.inr ⟨h6, hflag⟩)
  · exact iff_of_false (by simp) fun h => h.elim (fun h => h63 (h6 ▸ h)) fun ⟨_, h⟩ => hflag h
  · exact iff_of_true rfl (.inl (List.contains_iff_mem.mp hmem))
  · exact iff_of_false (by simp) fun h => h.elim (fun h => hmem (List.contains_iff_mem.mpr h)) fun ⟨h, _⟩ => h6 h

theorem requestClass_read_iff (code : Octet) (ps : List Octet) :
    requestClass code ps = .read ↔ code ≠ 0x04 ∧ ¬(code ∈ writeCodes ∨ (code = 0x63 ∧ ps[3]? = some 1)) := by
  rw [← requestClass_write_iff, ne_eq, ← requestClass_remoteAccess_iff code ps]
  cases requestClass code ps <;> simp

theorem authority_proceeds_iff (l : Line) (rem : Remote) (c : RequestClass) :
    authority l rem c = .proceeds ↔ l = .a ∨ (rem = .readOnly ∧ c = .read) ∨ (rem = .full ∧ c ≠ .remoteAccess) := by
  cases l <;> cases rem <;> cases c <;> simp [authority]

theorem authority_denied {rem : Remote} {c : RequestClass}
    (h : (rem = .readOnly ∧ c ≠ .read) ∨ (rem = .full ∧ c = .remoteAccess)) : authority .b rem c = .denied := by
  rcases h with ⟨rfl, hc⟩ | ⟨rfl, rfl⟩
  · cases c <;> simp [authority] at hc ⊢
  · rfl

/-- R154: a request denied, where a slot is FREE. -/
theorem answerDenied_placed {r : Request} {i : SlotIx} {s : State} (h : (s.agent r.line).firstFree = some i) :
    answerDenied r s = answer r i .denied [] s := by
  simp only [answerDenied, h]

/-- R154: a request denied, where none is. -/
theorem answerDenied_overrun {r : Request} {s : State} (h : (s.agent r.line).firstFree = none) :
    answerDenied r s = bump (.mgmt .overruns) s := by
  simp only [answerDenied, h]

/-- R154: what a denied request leaves, whichever of the two it is. -/
theorem answerDenied_frame (r : Request) (s : State) :
    answerDenied r s = { s with mgmt := (answerDenied r s).mgmt, counters := (answerDenied r s).counters } := by
  rw [answerDenied]
  split <;> rfl

/-- Settles O23: each outcome of the authority check by its own lemma. -/
theorem lineBAuthority : Obligations.LineBAuthority := by
  refine ⟨fun r s hp hm hb hoff => ?_, fun r s hp hm hb hcase => ?_, fun r s hp hstation => ?_, fun r s => ?_,
    fun code ps => ?_⟩
  · have htake : takeRequest (runOf r.code) r s = raise .accessDenied (bump (.mgmt .denied) s) := by
      rw [takeRequest, hb, hoff]
      rfl
    obtain ⟨hcounted, huncounted⟩ := counted_one (c := .mgmt .denied) (n := 1) (s := s)
      (t := raise .accessDenied (bump (.mgmt .denied) s)) rfl
    exact ⟨_, (exec_unauthorised hp hm).trans (congrArg _ htake), rfl, hcounted, huncounted, raise_raised ..⟩
  · have hden : authority r.line s.settings.remote (requestClass r.code r.params) = .denied := by
      rw [hb]
      exact authority_denied (hcase.imp_right fun ⟨hf, hc⟩ => ⟨hf, (requestClass_remoteAccess_iff ..).mpr hc⟩)
    have htake : takeRequest (runOf r.code) r s =
        raise .accessDenied (bump (.mgmt .denied) (answerDenied r s)) := by
      rw [takeRequest, hden]
    refine ⟨_, (exec_unauthorised hp hm).trans (congrArg _ htake), ?_, ?_, ?_, fun i hfree hfirst => ?_, fun hfull => ?_⟩
    · have hframe := answerDenied_frame r s
      generalize answerDenied r s = u at hframe
      rw [hframe]
      rfl
    · cases hf : (s.agent r.line).firstFree with
      | none =>
        rw [answerDenied_overrun hf]
        exact (counted_two (c := .mgmt .overruns) (d := .mgmt .denied) (n := 1) (m := 1) (by decide) rfl).2.1
      | some i =>
        rw [answerDenied_placed hf]
        exact (counted_one (c := .mgmt .denied) (n := 1) (s := s) rfl).1
    · rw [answerDenied_frame]
      exact raise_raised ..
    · rw [← hb] at hfree hfirst
      rw [answerDenied_placed (firstFree_eq_some hfree hfirst)]
      have hplaced := answer_placed r i .denied [] s
      exact ⟨⟨hplaced.slot, hplaced.others, hplaced.order, hplaced.cache, hplaced.otherLine⟩,
        (counted_one (c := .mgmt .denied) (n := 1) (s := s) rfl).2⟩
    · rw [← hb] at hfull
      rw [answerDenied_overrun (firstFree_eq_none.mpr hfull)]
      obtain ⟨-, hcounted, huncounted⟩ := counted_two (c := .mgmt .denied) (d := .mgmt .overruns) (n := 1) (m := 1)
        (s := s) (t := raise .accessDenied (bump (.mgmt .denied) (bump (.mgmt .overruns) s))) (by decide)
        (bumpBy_comm (by decide) 1 1 s)
      exact ⟨rfl, hcounted, huncounted⟩
  · have hunmanaged : s.managed = false := by rcases hstation with h | h <;> simp [State.managed, h]
    rw [exec_requestInstr, requestCommand, inCore_eq, if_pos hp, if_neg (by simp [hunmanaged])]
  · rw [← and_assoc (a := 0x01 ≤ s.station.toNat), ← managed_iff]
    refine ⟨fun h => ⟨h.powered, h.managed, ?_⟩, fun ⟨hp, hm, h⟩ => ⟨hp, hm, ?_⟩⟩
    · have hauth := h.authority
      rwa [authority_proceeds_iff, ne_eq, requestClass_remoteAccess_iff] at hauth
    · rwa [authority_proceeds_iff, ne_eq, requestClass_remoteAccess_iff]
  · exact ⟨requestClass_remoteAccess_iff code ps, requestClass_write_iff code ps, requestClass_read_iff code ps⟩

end Sys2Proof.Machine
end

section
/-! SUPPORT and CERTIFICATE. The reads of the catalogue (9.2 to 9.8), and the writes of the queue manager, the schedule unit
and selector B (9.5 to 9.7): each run by its outcome, and the statements settled from the outcomes. -/

namespace Sys2Proof.Machine

/-! ### Reads without parameters (R171, R174 to R176, R185) -/

theorem toList_eq_finRange_map {α : Type} {n : Nat} (v : Vector α n) : v.toList = (List.finRange n).map fun i => v[i] :=
  List.ext_getElem (by simp) fun i _ _ => by simp

/-- R208: the two flags of a time record, which stand in different bits. -/
theorem timeFlags_eq (valid running : Bool) :
    flagBit 0x80 valid ||| flagBit 0x40 running =
      (if valid = true then 0x80 else 0) + (if running = true then 0x40 else 0) := by
  cases valid <;> cases running <;> rfl

/-- R56, R210: the time record, octet by octet. -/
theorem timeRecord_eq (s : State) :
    s.timeRecord =
      [octet s.tk.cal.second, octet s.tk.cal.minute, octet s.tk.cal.hour, octet s.tk.cal.weekday,
          octet s.tk.cal.day, octet s.tk.cal.month, octet s.tk.cal.year,
          (if s.tk.timeValid then 0x80 else 0) + (if s.tk.crystal = .running then 0x40 else 0)] ++
        be32 s.uptime ++ be16 s.tk.generation := by
  have hcrystal : ((s.tk.crystal == .running) = true) = (s.tk.crystal = .running) := by simp
  simp only [State.timeRecord, timeFlags_eq, hcrystal, Calendar.octets, List.cons_append, List.nil_append]

/-- R174, R210: the identification, octet by octet. -/
theorem identification_eq (s : State) :
    be16 Config.vendorCode ++ be16 Config.partCode ++ [Config.revision, s.station] ++ nat16 512 ++
        [octet 48, octet 24] ++ be16 s.tk.generation =
      [0x3A, 0x61, 0x02, 0x16, 1, s.station, 0x02, 0x00, 48, 24] ++ be16 s.tk.generation := rfl

/-- Settles O24: each request is ready, so it runs, and its run has nothing to check. -/
theorem readsWithoutParametersReport : Obligations.ReadsWithoutParametersReport := by
  intro l src seq i s
  have hok : ∀ {data : List Octet}, Status.ok ≠ .ok → data = [] := fun h => absurd rfl h
  refine ⟨fun h => ?_, fun h => ?_, fun h => ?_, fun h => ?_, fun h => ?_, fun h => ?_⟩
  · exact ⟨_, requestCommand_ready (run := runIdentify) h,
      answered_of_run (congrArg (carryOut · s) (identification_eq s)) rfl h hok⟩
  · exact ⟨_, requestCommand_ready (run := runReadSettings) h, answered_of_run rfl rfl h hok⟩
  · exact ⟨_, requestCommand_ready (run := runReadTime) h,
      answered_of_run (congrArg (carryOut · s) (timeRecord_eq s)) rfl h hok⟩
  · exact ⟨_, requestCommand_ready (run := runReadBankState) h, answered_of_run rfl rfl h hok⟩
  · have hstates : (s.windows.toList.flatMap fun w => w.state.octets) =
        (List.finRange 24).flatMap fun w => s.windows[w].state.octets := by
      rw [toList_eq_finRange_map, List.flatMap_map]
    exact ⟨_, requestCommand_ready (run := runReadWindowState) h,
      answered_of_run (congrArg (carryOut · s) hstates) rfl h hok⟩
  · have hevents := congrArg (· ++ be16 s.events.mask ++ [s.events.notice.state.code, s.events.notice.number])
      s.events.stateOctets_eq
    exact ⟨_, requestCommand_ready (run := runReadEvents) h,
      answered_of_run (congrArg (carryOut · s) hevents) rfl h hok⟩

/-! ### Indexes (R208, R209) -/

theorem nat16_zero : nat16 0 = [0, 0] := by decide

theorem readQueueIx_octet (q : QueueIx) : readQueueIx (octet q.val) = some q := by
  simp only [readQueueIx, toNat_octet (show q.val ≤ 255 by omega), q.isLt, dif_pos]

theorem readQueueIx_eq_none {x : Octet} (h : 7 < x.toNat) : readQueueIx x = none := dif_neg (by omega)

theorem readWindowIx_octet (w : WindowIx) : readWindowIx (octet w.val) = some w := by
  simp only [readWindowIx, toNat_octet (show w.val ≤ 255 by omega), w.isLt, dif_pos]

theorem readWindowIx_eq_none {x : Octet} (h : 23 < x.toNat) : readWindowIx x = none := dif_neg (by omega)

theorem readWindowIx_eq_some {x : Octet} (h : x.toNat ≤ 23) : ∃ w, readWindowIx x = some w := ⟨_, dif_pos (by omega)⟩

theorem isScheduled_eq_true_iff (q : QueueIx) : isScheduled q = true ↔ 1 ≤ q.val ∧ q.val ≤ 6 := by
  simp [isScheduled]

/-! ### Reads of one position (R104, R176, R179, R182) -/

section
variable {l : Line} {i : SlotIx} {x y : Octet} {s : State}

theorem runReadRule_ok {n : Bool} {e : EntryIx} (hx : readYesNo x = some n) (hy : readEntryIx y = some e) :
    runReadRule l i [x, y] s =
      carryOut ([yesNo (n == s.classifier.active)] ++ (s.classifier.bank n)[e].octets) s := by
  simp only [runReadRule, hx, hy]

theorem runReadRule_badIndex (h : 1 < x.toNat ∨ 47 < y.toNat) : runReadRule l i [x, y] s = refuse .badIndex s := by
  simp only [runReadRule]
  split
  · rename_i n e hx hy
    rcases h with h | h
    · simp [readYesNo_eq_none h] at hx
    · simp [readEntryIx_eq_none h] at hy
  · rfl

theorem runReadQueue_ok {q : QueueIx} (hx : x = octet q.val) :
    runReadQueue l i [x] s = carryOut (s.queueRecord q) s := by
  simp only [runReadQueue, hx, readQueueIx_octet]

theorem runReadQueue_badIndex (hx : 7 < x.toNat) : runReadQueue l i [x] s = refuse .badIndex s := by
  simp only [runReadQueue, readQueueIx_eq_none hx]

theorem runReadWindow_ok {w : WindowIx} (hx : x = octet w.val) :
    runReadWindow l i [x] s = carryOut s.windows[w].entry.octets s := by
  simp only [runReadWindow, hx, readWindowIx_octet]

theorem runReadWindow_badIndex (hx : 23 < x.toNat) : runReadWindow l i [x] s = refuse .badIndex s := by
  simp only [runReadWindow, readWindowIx_eq_none hx]

end

/-- R208: a fallback, or the HOLD returned for EXP and INB, as its octet. -/
theorem fallbackOctet_eq (q : QueueIx) (f : Fallback) :
    (if isScheduled q then f.code else Fallback.hold.code) =
      if isScheduled q = true ∧ f = .release then 1 else 0 := by
  cases isScheduled q <;> cases f <;> rfl

/-- R20, R210: the snapshot of a queue, octet by octet. -/
theorem queueRecord_eq (s : State) (q : QueueIx) :
    s.queueRecord q =
      [octet (s.queue q).limit] ++ nat16 (s.queue q).maxAge ++
        [if isScheduled q = true ∧ (s.queue q).fallback = .release then 1 else 0] ++
        nat16 (s.queue q).frames.length ++ nat16 (s.blocksHeld (s.queue q)) ++ nat16 (s.queue q).mark ++
        [if (s.queue q).frozen then 1 else 0] := by
  rw [State.queueRecord, fallbackOctet_eq]
  rfl

/-- R176: the active flag of the bank read. -/
theorem yesNo_bank (active : Bool) :
    yesNo (false == active) = (if active then 0 else 1) ∧ yesNo (true == active) = if active then 1 else 0 := by
  cases active <;> exact ⟨rfl, rfl⟩

/-- Settles O25: each request is ready, so it runs, and each outcome of its index check gives its answer. -/
theorem readsOfOnePositionReport : Obligations.ReadsOfOnePositionReport := by
  intro l src seq x y i s
  have hok : ∀ {data : List Octet}, Status.ok ≠ .ok → data = [] := fun h => absurd rfl h
  obtain ⟨hbank0, hbank1⟩ := yesNo_bank s.classifier.active
  refine ⟨fun h => ⟨_, requestCommand_ready (run := runReadRule) h, fun e hx hy => ?_, fun e hx hy => ?_, fun hbad => ?_⟩,
    fun h => ⟨_, requestCommand_ready (run := runReadQueue) h, fun q hx => ?_, fun hbad => ?_⟩,
    fun h => ⟨_, requestCommand_ready (run := runReadWindow) h, fun w hx => ?_, fun hbad => ?_⟩⟩
  · have hrun := runReadRule_ok (l := l) (i := i) (x := x) (s := s) (n := false) (by rw [hx]; rfl)
      (hy ▸ readEntryIx_octet e)
    rw [hbank0] at hrun
    exact answered_of_run hrun rfl h hok
  · have hrun := runReadRule_ok (l := l) (i := i) (x := x) (s := s) (n := true) (by rw [hx]; rfl)
      (hy ▸ readEntryIx_octet e)
    rw [hbank1] at hrun
    exact answered_of_run hrun rfl h hok
  · exact answered_of_run (runReadRule_badIndex hbad) rfl h fun _ => rfl
  · have hrun := runReadQueue_ok (l := l) (i := i) (s := s) hx
    rw [queueRecord_eq] at hrun
    exact answered_of_run hrun rfl h hok
  · exact answered_of_run (runReadQueue_badIndex hbad) rfl h fun _ => rfl
  · exact answered_of_run (runReadWindow_ok hx) rfl h hok
  · exact answered_of_run (runReadWindow_badIndex hbad) rfl h fun _ => rfl

/-! ### WRITE QUEUE (R17, R180) -/

section
variable {l : Line} {i : SlotIx} {x li a1 a2 fb : Octet} {q : QueueIx} {s : State}

theorem runWriteQueue_badIndex (hx : 7 < x.toNat) : runWriteQueue l i [x, li, a1, a2, fb] s = refuse .badIndex s := by
  simp only [runWriteQueue, readQueueIx_eq_none hx]

/-- R208: an octet above 1 is no fallback. -/
theorem readFallback_eq_none (h : 1 < fb.toNat) : readFallback fb = none := by
  have h0 : fb ≠ 0 := by rintro rfl; simp at h
  have h1 : fb ≠ 1 := by rintro rfl; simp at h
  rw [readFallback, if_neg h0, if_neg h1]

theorem readFallback_eq_some (h : fb.toNat ≤ 1) : readFallback fb = some (if fb = 1 then .release else .hold) := by
  have hfb : fb = 0 ∨ fb = 1 := by bv_omega
  obtain rfl | rfl := hfb <;> rfl

theorem runWriteQueue_badValue (hx : x = octet q.val) (h : li = 0 ∨ (1 ≤ q.val ∧ q.val ≤ 6 ∧ 1 < fb.toNat)) :
    runWriteQueue l i [x, li, a1, a2, fb] s = refuse .badValue s := by
  simp only [runWriteQueue, hx, readQueueIx_octet]
  split
  · rfl
  · rename_i f hf
    rw [if_pos]
    refine h.resolve_right fun ⟨h1, h6, hfb⟩ => ?_
    rw [readFallbackFor, if_pos ((isScheduled_eq_true_iff q).mpr ⟨h1, h6⟩), readFallback_eq_none hfb] at hf
    cases hf

/-- R17: the queue as WRITE QUEUE leaves it. -/
def Queue.rewritten (q : QueueIx) (li a1 a2 fb : Octet) (x : Queue) : Queue :=
  { x with
    limit := li.toNat
    maxAge := 256 * a1.toNat + a2.toNat
    fallback := if 1 ≤ q.val ∧ q.val ≤ 6 then (if fb = 1 then .release else .hold) else x.fallback }

theorem blocksHeld_setQueue (x y : Queue) (hframes : y.frames = x.frames) :
    (setQueue q y s).blocksHeld y = s.blocksHeld x := by
  rw [State.blocksHeld, hframes]
  rfl

/-- R180: the queue record after WRITE QUEUE. -/
theorem queueRecord_rewritten (hfb : 1 ≤ q.val → q.val ≤ 6 → fb.toNat ≤ 1) :
    (setQueue q ((s.queue q).rewritten q li a1 a2 fb) s).queueRecord q =
      [li, a1, a2, if 1 ≤ q.val ∧ q.val ≤ 6 then fb else 0] ++ nat16 (s.queue q).frames.length ++
        nat16 (s.blocksHeld (s.queue q)) ++ nat16 (s.queue q).mark ++ [if (s.queue q).frozen then 1 else 0] := by
  have hage : nat16 (256 * a1.toNat + a2.toNat) = [a1, a2] := nat16_num16 a1 a2
  have hfallback : (if isScheduled q = true ∧ ((s.queue q).rewritten q li a1 a2 fb).fallback = .release then 1 else 0) =
      if 1 ≤ q.val ∧ q.val ≤ 6 then fb else 0 := by
    simp only [isScheduled_eq_true_iff, Queue.rewritten]
    by_cases hq : 1 ≤ q.val ∧ q.val ≤ 6
    · have hcases : fb = 0 ∨ fb = 1 := by have := hfb hq.1 hq.2; bv_omega
      rcases hcases with rfl | rfl <;> simp [hq]
    · simp [hq]
  rw [queueRecord_eq, queue_setQueue_same, hfallback,
    blocksHeld_setQueue (s.queue q) ((s.queue q).rewritten q li a1 a2 fb) rfl]
  simp only [Queue.rewritten, octet_toNat, hage, List.cons_append, List.nil_append]
  rfl

theorem runWriteQueue_ok (hx : x = octet q.val) (hli : li ≠ 0) (hfb : 1 ≤ q.val → q.val ≤ 6 → fb.toNat ≤ 1) :
    runWriteQueue l i [x, li, a1, a2, fb] s =
      carryOut ((setQueue q ((s.queue q).rewritten q li a1 a2 fb) s).queueRecord q)
        (setQueue q ((s.queue q).rewritten q li a1 a2 fb) s) := by
  have hwritten : ∀ f, readFallbackFor q fb = some f →
      writeQueue q li.toNat (num16 a1 a2) f s = setQueue q ((s.queue q).rewritten q li a1 a2 fb) s := by
    intro f hf
    rw [readFallbackFor] at hf
    by_cases hq : isScheduled q = true
    · have hrange := (isScheduled_eq_true_iff q).mp hq
      rw [if_pos hq, readFallback_eq_some (hfb hrange.1 hrange.2), Option.some.injEq] at hf
      rw [writeQueue, Queue.rewritten, if_pos hq, if_pos hrange, hf, num16]
    · rw [writeQueue, Queue.rewritten, if_neg hq, if_neg (mt (isScheduled_eq_true_iff q).mpr hq), num16]
  have hread : ∃ f, readFallbackFor q fb = some f := by
    rw [readFallbackFor]
    split
    · rename_i hq
      have hrange := (isScheduled_eq_true_iff q).mp hq
      exact ⟨_, readFallback_eq_some (hfb hrange.1 hrange.2)⟩
    · exact ⟨_, rfl⟩
  obtain ⟨f, hf⟩ := hread
  simp only [runWriteQueue, hx, readQueueIx_octet, hf, if_neg hli, hwritten f hf]

end

/-- Settles O31: the request is ready, so it runs, and each outcome of its checks gives its answer. -/
theorem writeQueueReplacesSettings : Obligations.WriteQueueReplacesSettings := by
  intro l src seq x li a1 a2 fb i s h
  refine ⟨_, requestCommand_ready (run := runWriteQueue) h, fun hbad => ?_, fun q hx => ⟨fun hbad => ?_, fun hli hfb => ?_⟩⟩
  · exact answered_of_run (runWriteQueue_badIndex hbad) rfl h fun _ => rfl
  · exact answered_of_run (runWriteQueue_badValue hx hbad) rfl h fun _ => rfl
  · have hrun := runWriteQueue_ok (l := l) (i := i) (a1 := a1) (a2 := a2) (s := s) hx hli hfb
    rw [queueRecord_rewritten hfb] at hrun
    exact answered_of_run hrun rfl h fun hst => absurd rfl hst

/-! ### Queue commands (R10, R13 to R15, R181) -/

section
variable {l : Line} {i : SlotIx} {x : Octet} {q : QueueIx} {s : State}

theorem runQueueCommand_ok {f : QueueIx → State → State} (hx : x = octet q.val) :
    runQueueCommand f l i [x] s = carryOut ((f q s).queueFigures q) (f q s) := by
  simp only [runQueueCommand, hx, readQueueIx_octet]

theorem runQueueCommand_badIndex {f : QueueIx → State → State} (hx : 7 < x.toNat) :
    runQueueCommand f l i [x] s = refuse .badIndex s := by
  simp only [runQueueCommand, readQueueIx_eq_none hx]

theorem runFlushQueue_ok (hx : x = octet q.val) :
    runFlushQueue l i [x] s =
      carryOut (nat16 (s.queue q).count ++ (flushQueue q s).queueFigures q) (flushQueue q s) := by
  simp only [runFlushQueue, hx, readQueueIx_octet]

theorem runFlushQueue_badIndex (hx : 7 < x.toNat) : runFlushQueue l i [x] s = refuse .badIndex s := by
  simp only [runFlushQueue, readQueueIx_eq_none hx]

/-- R181: the figures of a queue just written. -/
theorem queueFigures_setQueue (y : Queue) :
    (setQueue q y s).queueFigures q = nat16 y.frames.length ++ nat16 y.mark ++ [if y.frozen then 1 else 0] := by
  rw [State.queueFigures, queue_setQueue_same]
  rfl

theorem setQueue_self (q : QueueIx) (s : State) : setQueue q (s.queue q) s = s := by
  simp [setQueue, State.queue]

/-- R10: a release of S1 to S6. -/
theorem releaseQueue_scheduled (h1 : 1 ≤ q.val) (h6 : q.val ≤ 6) :
    releaseQueue q s = setQueue q { s.queue q with mark := (s.queue q).frames.length } s := by
  rw [releaseQueue, if_pos ((isScheduled_eq_true_iff q).mpr ⟨h1, h6⟩), Queue.count]

/-- R10: a release of EXP or INB. -/
theorem releaseQueue_other (h : q.val = 0 ∨ q.val = 7) : releaseQueue q s = s := by
  rw [releaseQueue, if_neg (mt (isScheduled_eq_true_iff q).mp (by omega))]
  exact setQueue_self q s

/-- R181: the figures of a queue just flushed. -/
theorem queueFigures_flushQueue :
    (flushQueue q s).queueFigures q = [0, 0, 0, 0, if (s.queue q).frozen then 1 else 0] := by
  have hqueue : (flushQueue q s).queue q = { s.queue q with frames := [], mark := 0 } := by
    rw [flushQueue_eq]
    exact queue_setQueue_same ..
  simp only [State.queueFigures, hqueue, Queue.count, List.length_nil, nat16_zero]
  rfl

theorem flushQueue_counters (q : QueueIx) (s : State) :
    (flushQueue q s).counters = (bumpBy (.queue q .flushed) (s.queue q).frames.length s).counters := by
  rw [flushQueue, releaseFrames_frame]
  rfl

end

/-- Settles O32: each request is ready, so it runs, and each outcome of its index check gives its answer. -/
theorem queueCommandsAct : Obligations.QueueCommandsAct := by
  intro l src seq x i s
  have hok : ∀ {data : List Octet}, Status.ok ≠ .ok → data = [] := fun h => absurd rfl h
  refine ⟨fun h => ⟨_, requestCommand_ready (run := runFreezeQueue) h, fun hbad => ?_, fun q hx => ?_⟩,
    fun h => ⟨_, requestCommand_ready (run := runResumeQueue) h, fun hbad => ?_, fun q hx => ?_⟩,
    fun h => ⟨_, requestCommand_ready (run := runReleaseQueue) h, fun hbad => ?_, fun q hx => ⟨fun h1 h6 => ?_, fun ho => ?_⟩⟩,
    fun h => ⟨_, requestCommand_ready (run := runFlushQueue) h, fun hbad => ?_, fun q hx => ?_⟩⟩
  · exact answered_of_run (runQueueCommand_badIndex hbad) rfl h fun _ => rfl
  · have hrun := runQueueCommand_ok (l := l) (i := i) (s := s) (f := freezeQueue) hx
    rw [freezeQueue, queueFigures_setQueue] at hrun
    exact answered_of_run hrun rfl h hok
  · exact answered_of_run (runQueueCommand_badIndex hbad) rfl h fun _ => rfl
  · have hrun := runQueueCommand_ok (l := l) (i := i) (s := s) (f := resumeQueue) hx
    rw [resumeQueue, queueFigures_setQueue] at hrun
    exact answered_of_run hrun rfl h hok
  · exact answered_of_run (runQueueCommand_badIndex hbad) rfl h fun _ => rfl
  · have hrun := runQueueCommand_ok (l := l) (i := i) (s := s) (f := releaseQueue) hx
    rw [releaseQueue_scheduled h1 h6, queueFigures_setQueue] at hrun
    exact answered_of_run hrun rfl h hok
  · have hrun := runQueueCommand_ok (l := l) (i := i) (s := s) (f := releaseQueue) hx
    rw [releaseQueue_other ho] at hrun
    exact answered_of_run hrun rfl h hok
  · exact answered_of_run (runFlushQueue_badIndex hbad) rfl h fun _ => rfl
  · have hrun := runFlushQueue_ok (l := l) (i := i) (s := s) hx
    rw [queueFigures_flushQueue] at hrun
    have hstate := flushQueue_eq q s
    rw [releaseFrames_armed] at hstate
    obtain ⟨hcounted, huncounted⟩ := counted_one (flushQueue_counters q s)
    exact ⟨flushQueue q s, answered_of_run hrun (by rw [flushQueue_eq]; rfl) h hok, hstate, hcounted, huncounted⟩

/-! ### WRITE WINDOW (R39, R40, R183) -/

section
variable {l : Line} {i : SlotIx} {x : Octet} {es : List Octet} {w : WindowIx} {e : WindowEntry} {s : State}

theorem runWriteWindow_badIndex (hlen : es.length = 11) (hx : 23 < x.toNat) :
    runWriteWindow l i (x :: es) s = refuse .badIndex s := by
  simp only [runWriteWindow, if_pos hlen, readWindowIx_eq_none hx]

theorem runWriteWindow_badValue (hlen : es.length = 11) (hx : x.toNat ≤ 23) (he : WindowEntry.read es = none) :
    runWriteWindow l i (x :: es) s = refuse .badValue s := by
  obtain ⟨w, hw⟩ := readWindowIx_eq_some hx
  simp only [runWriteWindow, if_pos hlen, hw, he]

theorem runWriteWindow_ok (hlen : es.length = 11) (hx : x = octet w.val) (he : WindowEntry.read es = some e) :
    runWriteWindow l i (x :: es) s = carryOut (writeWindow w e s).windows[w].state.octets (writeWindow w e s) := by
  simp only [runWriteWindow, if_pos hlen, hx, readWindowIx_octet, he]

/-- R40: the edit of a CLOSED window. -/
theorem writeWindow_closed (h : s.windows[w].state.phase = .closed) :
    writeWindow w e s =
      { s with windows := s.windows.set w.val { entry := e, state := s.windows[w].state } w.isLt } := by
  have hrun : s.windows[w].state.running = false := by simp [WindowState.running, h, -Fin.getElem_fin]
  rw [writeWindow, hrun]
  rfl

/-- R39: the edit of an OPEN or SPENT window. -/
theorem writeWindow_running (h : s.windows[w].state.phase ≠ .closed) :
    writeWindow w e s =
      raise .windowClosed
        { s with
          windows := s.windows.set w.val
            { entry := e
              state := { phase := .closed, minutes := 0, budget := s.windows[w].state.budget
                         opening := s.windows[w].state.opening } } w.isLt } := by
  have hrun : s.windows[w].state.running = true := (WindowState.running_iff _).mpr h
  rw [writeWindow, hrun]
  rfl

end

/-- Settles O33: the request is ready, so it runs, and each outcome of its checks gives its answer. -/
theorem writeWindowClosesThenStores : Obligations.WriteWindowClosesThenStores := by
  intro l src seq x es i s h hlen
  have hok : ∀ {data : List Octet}, Status.ok ≠ .ok → data = [] := fun h => absurd rfl h
  refine ⟨_, requestCommand_ready (run := runWriteWindow) h, fun hbad => ?_, fun hx he => ?_,
    fun e w hx he => ⟨fun hclosed => ?_, fun hrunning => ?_⟩⟩
  · exact answered_of_run (runWriteWindow_badIndex hlen hbad) rfl h fun _ => rfl
  · exact answered_of_run (runWriteWindow_badValue hlen hx he) rfl h fun _ => rfl
  · have hrun := runWriteWindow_ok (l := l) (i := i) (s := s) hlen hx he
    rw [writeWindow_closed hclosed, table_set_get_same] at hrun
    exact answered_of_run hrun rfl h hok
  · have hrun := runWriteWindow_ok (l := l) (i := i) (s := s) hlen hx he
    rw [writeWindow_running hrunning] at hrun
    have hwindow : ∀ v : Window, (raise .windowClosed { s with windows := s.windows.set w.val v w.isLt }).windows[w] = v :=
      fun v => table_set_get_same ..
    rw [hwindow, WindowState.octets, nat16_zero] at hrun
    exact ⟨_, answered_of_run hrun rfl h hok, rfl, raise_raised _ _ s.events⟩

/-! ### Trunk mode (R81, R82, R184) -/

section
variable {q : QueueIx} {h : Block} {marked : Bool} {sponsor : Option Sponsor} {s : State}

/-- R7: a return, with the mark given back to a marked frame. -/
theorem returnToHead_eq (q : QueueIx) (h : Block) (marked : Bool) (s : State) :
    returnToHead q h marked s =
      setQueue q
        { s.queue q with
          frames := h :: (s.queue q).frames
          mark := (s.queue q).mark + if marked then 1 else 0 } s := by
  cases marked <;> rfl

theorem stopTrunk_kept (hf : ∀ k, s.txB.framesHeld ≠ [k]) : stopTrunk s = { s with trunkMode := .stopped } := by
  rw [stopTrunk]
  split
  · rename_i k _ _ htx
    exact absurd (by rw [htx]; rfl) (hf k)
  · rename_i k _ _ _ htx
    exact absurd (by rw [htx]; rfl) (hf k)
  all_goals rfl

theorem stopTrunk_requesting (htx : s.txB = .requesting (.frame q h marked sponsor)) :
    stopTrunk s = returnToHead q h marked { s with trunkMode := .stopped, txB := .idle } := by
  simp only [stopTrunk, htx]

theorem stopTrunk_sending {stream : List Octet} (htx : s.txB = .sending (.frame q h marked sponsor) stream) :
    stopTrunk s =
      returnToHead q h marked (cancelSending .b stream { s with trunkMode := .stopped, txB := .idle }) := by
  simp only [stopTrunk, htx]

end

/-- Settles O34: both requests are ready, so they run; what STOP TRUNK leaves depends on what is in flight. -/
theorem trunkModeCommands : Obligations.TrunkModeCommands := by
  intro l src seq i s
  have hok : ∀ {data : List Octet}, Status.ok ≠ .ok → data = [] := fun h => absurd rfl h
  have hrun : runStopTrunk l i [] s = carryOut (stopTrunk s).trunkOctets (stopTrunk s) := rfl
  refine ⟨fun h => ⟨_, requestCommand_ready (run := runStopTrunk) h, fun hf => ?_,
      fun q k marked sponsor => ⟨fun htx => ?_, fun stream htx => ?_⟩⟩,
    fun h => ⟨_, requestCommand_ready (run := runRestartTrunk) h, answered_of_run rfl rfl h hok⟩⟩
  · rw [stopTrunk_kept hf] at hrun
    exact answered_of_run hrun rfl h hok
  · rw [stopTrunk_requesting htx, returnToHead_eq] at hrun
    exact answered_of_run hrun rfl h hok
  · rw [stopTrunk_sending htx, returnToHead_eq] at hrun
    exact ⟨_, answered_of_run hrun rfl h hok, rfl, rfl, cutStream_cutShort ..⟩

end Sys2Proof.Machine
end

section
/-! SUPPORT and CERTIFICATE. Steps and the waiting commands (log 1), the values after reset, resets, restarts and supplies. -/

namespace Sys2Proof.Machine

/-- Settles O1: both are the definition of a step. -/
theorem stepRunsFrontCommand : Obligations.StepRunsFrontCommand :=
  ⟨fun _ _ _ => rfl, fun s h => by rw [step, h]⟩

/-! ### The values after reset -/

theorem ofFn_vals (n : Nat) : (List.ofFn fun b : Fin n => b).map (·.val) = List.range n := by
  rw [List.map_ofFn]
  exact List.ext_getElem (by simp) fun i _ _ => by simp

theorem reset_store : State.reset.store.free = allBlocks ∧ State.reset.store.armed = true := by
  simp only [State.reset, Store.rebuilt, and_self]

theorem reset_record (b : Block) : State.reset.record b = FrameRecord.blank b := tabulate_get_fin ..

theorem reset_queue (q : QueueIx) : State.reset.queue q = Queue.blank q := tabulate_get_fin ..

theorem reset_window (i : WindowIx) : State.reset.windows[i] = Window.blank := tabulate_get_fin ..

theorem reset_agent (l : Line) : State.reset.agent l = LineAgent.blank := by cases l <;> rfl

theorem reset_receiver (l : Line) : State.reset.receiver l = Receiver.seeking := by cases l <;> rfl

theorem clearedBank_entry (i : EntryIx) : clearedBank[i] = RuleEntry.cleared := tabulate_get_fin ..

theorem cleared_octets : RuleEntry.cleared.octets = [0, 3, 0, 0] ++ List.replicate 13 0 := by decide

theorem blankWindow_octets :
    Window.blank.entry.octets = [0x00, 0, 0xFF, 0x80, 0xFF, 0, 1, 0, 0, 0, 0x02] := by decide

/-- R206: CLOCK_STOPPED alone is pending after a power-on. -/
theorem reset_event (e : Event) :
    State.reset.events.states[e.number] = if e = .clockStopped then .unreported else .clear := by
  cases e <;> rfl

/-- Settles O3: each record by the definition of its value after reset. -/
theorem resetValuesAsListed : Obligations.ResetValuesAsListed := by
  refine ⟨rfl, rfl, rfl, reset_receiver, reset_store.1 ▸ ofFn_vals 512, reset_store.2, reset_record, reset_queue,
    fun i => ⟨?_, ?_⟩, rfl, rfl,
    fun i => ⟨?_, ?_⟩, rfl, rfl, rfl, rfl, rfl, rfl, rfl, rfl, rfl, fun l => ?_, rfl, reset_event, rfl, rfl, fun c => ?_⟩
  · exact (congrArg RuleEntry.octets (clearedBank_entry i)).trans cleared_octets
  · exact (congrArg RuleEntry.octets (clearedBank_entry i)).trans cleared_octets
  · rw [reset_window, blankWindow_octets]
  · rw [reset_window]
    rfl
  · rw [reset_agent]
    exact ⟨rfl, rfl, LineAgent.blank_slots⟩
  · exact tabulate_get_fin ..

/-! ### The invariants at reset -/

theorem reset_empty : State.reset.framesHeld = [] :=
  framesHeld_of_empty (fun l => by rw [reset_receiver]; rfl) (fun q => by rw [reset_queue]; rfl) rfl rfl

/-- Settles O4: no frame is held, no queue marked, every window closed, every slot free. -/
theorem resetMeetsInvariants : Obligations.ResetMeetsInvariants := by
  refine ⟨.of_empty reset_empty reset_store.1 fun l => by rw [reset_receiver]; rfl, ⟨fun l hl => ?_, fun k hk => ?_, fun k hk => ?_⟩,
    ⟨rfl, fun c hc => ?_⟩, .of_unmarked (fun q => by rw [reset_queue]; rfl) rfl, ⟨fun i => ?_, fun i => ?_, fun _ _ i => ?_⟩,
    ⟨rfl, Nat.zero_le _, fun h => by cases h⟩, rfl, (eventsSafe_iff _).mpr (EventUnit.afterReset_safe false),
    .of_restarted (fun l => ?_) (fun l i => ?_) (fun l => by cases l <;> rfl) rfl⟩
  · rw [reset_receiver] at hl
    cases hl
  · rw [reset_empty] at hk
    cases hk
  · have hheld := framesHeld_of_framesComplete hk
    rw [reset_empty] at hheld
    cases hheld
  · cases hc
  · rw [reset_window]
    exact Window.blank_safe.1
  · rw [reset_window]
    exact Window.blank_safe.2
  · rw [reset_window]
    rfl
  · rw [reset_agent]
    exact LineAgent.blank_safe
  · rw [reset_agent, LineAgent.blank_slots]
    simp [Slot.blank]

/-! ### Core resets (R59 to R61) -/

/-- R61: a core reset, as a change of the state after a power-on. -/
theorem coreReset_eq (strap : Octet) (s : State) :
    coreReset strap s =
      { State.reset with
        pending := s.pending, draws := (cancelAtReset s).draws, station := strap, grant := s.grant
        sent := (cancelAtReset s).sent, tk := { s.tk with generation := s.tk.generation + 1 }
        store := { State.reset.store with mem := s.store.mem }
        events := EventUnit.afterReset s.tk.timeValid } := by
  simp only [coreReset, State.reset, Store.rebuilt]

/-- R143, R146: a transmitter in IDLE leaves its line what it last sent, and then idle fill. -/
theorem lineOctet_of_idle {t : State} (ha : t.txA = .idle) (hb : t.txB = .idle) (l : Line) (k : Nat) :
    t.lineOctet l k = (t.sent.get l).getD k 0xC3 := by
  cases l <;> simp only [State.lineOctet, State.transmission, ha, hb, idleFill, PerLine.get]

theorem cancelAtReset_powered {s : State} (h : s.supply = .main) :
    CutA s (cancelAtReset s).sent.a ∧ CutB s (cancelAtReset s).sent.b := by
  rw [cancelAtReset, if_pos h]
  exact cancel_both s

theorem cancelAtReset_unpowered {s : State} (h : s.supply ≠ .main) : cancelAtReset s = s := if_neg h

theorem exec_coreReset (strap : Octet) {s : State} (h : s.supply ≠ .none) :
    exec (.coreReset strap) s = .next (coreReset strap s) := by
  simp only [exec, execCoreReset, if_neg h]

/-- Settles O5: a core reset by what it writes, and a power-on as a core reset from timekeeping start. -/
theorem coreResetAndPowerOn : Obligations.CoreResetAndPowerOn := by
  refine ⟨fun strap s hs => ⟨_, exec_coreReset strap hs, ?_, cancelAtReset_powered, fun hm => ?_,
      lineOctet_of_idle rfl rfl, fun hv => ?_, fun hv => ?_⟩,
    fun strap s => ?_, fun strap s hs => ?_, fun s => ⟨fun hs => ?_, fun hs => ?_⟩⟩
  · rw [coreReset_eq]
  · have hsent := congrArg State.sent (cancelAtReset_unpowered hm)
    rw [coreReset_eq]
    exact hsent
  · rw [coreReset_eq, hv]
    rfl
  · rw [coreReset_eq, hv]
    exact ⟨rfl, rfl, fun n => tabulate_get_fin ..⟩
  · have hstart : cancelAtReset (timekeepingStart s) = timekeepingStart s := cancelAtReset_unpowered (by simp [timekeepingStart])
    simp only [exec, execPowerOnWithTimeLoss, coreReset_eq, hstart]
    rfl
  · simp only [exec, execCoreReset, execPowerOnWithTimeLoss, if_pos hs]
  · simp only [exec, execPowerOnWithTimeLoss, vbakStart, if_pos hs]
    rfl
  · simp only [exec, execPowerOnWithTimeLoss, vbakStart, if_neg hs]

/-! ### Restarts (R162 to R165) -/

theorem readScope_eq_none {x : Octet} (h : 1 < x.toNat) : readScope x = none := by
  have h0 : x ≠ 0 := by rintro rfl; simp at h
  have h1 : x ≠ 1 := by rintro rfl; simp at h
  rw [readScope, if_neg h0, if_neg h1]

theorem runRestart_ok {l : Line} {i : SlotIx} {x : Octet} {s : State} {sc : Scope} (h : readScope x = some sc) :
    runRestart l i [x] s = carryOut ([sc.code] ++ be16 s.tk.generation) { s with restart := .pending sc l i 2 } := by
  simp only [runRestart, h]

theorem runRestart_badValue {l : Line} {i : SlotIx} {x : Octet} {s : State} (h : 1 < x.toNat) :
    runRestart l i [x] s = refuse .badValue s := by
  simp only [runRestart, readScope_eq_none h]

theorem exec_inCore {f : State → State} {c : Instr} {s : State} (hc : exec c s = inCore f s) (hp : s.supply = .main) :
    exec c s = .next (f s) := by
  rw [hc, inCore_eq, if_pos hp]

/-- R163: nothing is due before its time, and nothing is performed before it is due. -/
theorem expireDeadline_other {s : State} (h : ∀ sc l i d, s.restart ≠ .pending sc l i d) : expireDeadline s = s := by
  rw [expireDeadline]
  split
  · rename_i hr
    rw [← hr]
  · exact absurd ‹_› (h _ _ _ _)
  · rename_i hr
    rw [← hr]

theorem performRestart_other {strap : Octet} {s : State} (h : ∀ sc l i, s.restart ≠ .due sc l i) :
    performRestart strap s = s := by
  rw [performRestart]
  split
  · rfl
  · rfl
  · exact absurd ‹_› (h _ _ _)
  · exact absurd ‹_› (h _ _ _)

theorem inCore_self {f : State → State} {s : State} (h : f s = s) : inCore f s = .next s := by
  rw [inCore_eq, h, ite_self]

/-- R164: the agent's records of a line after a traffic restart. -/
theorem trafficRestart_agent (s : State) (l : Line) : (trafficRestart s).agent l = (s.agent l).trafficRestart := by
  rw [trafficRestart_frame]
  cases l <;> rfl

/-- R164: a slot after a traffic restart. -/
theorem restartedSlot_eq (g : LineAgent) (i : SlotIx) :
    g.trafficRestart.slots[i] =
      match g.slots[i].state with
      | .free => g.slots[i]
      | .cached => g.slots[i]
      | .queued => if g.isCacheSlot i then g.slots[i] else Slot.blank
      | .sending => if g.isCacheSlot i then { g.slots[i] with state := .cached } else Slot.blank := by
  rw [LineAgent.trafficRestart, tabulate_get_fin, LineAgent.restartedSlot, LineAgent.endedSlot]
  cases g.slots[i].state <;> rfl

theorem trafficRestart_order (g : LineAgent) :
    g.trafficRestart.order = g.order.filter fun i => g.trafficRestart.slots[i].state == .queued := by
  simp only [LineAgent.trafficRestart, tabulate_get_fin]

/-- Settles O6: RESTART by its run, and the two events by the restart state that each takes. -/
theorem restartIsRecordedDueAndPerformed : Obligations.RestartIsRecordedDueAndPerformed := by
  have hok : ∀ {data : List Octet}, Status.ok ≠ .ok → data = [] := fun h => absurd rfl h
  refine ⟨fun l src seq x i s h => ⟨_, requestCommand_ready (run := runRestart) h, fun hx => ?_, fun hx => ?_, fun hx => ?_⟩,
    fun s sc l i d hp hr => ?_, fun strap s l i hp hr => ?_, fun strap s l i hp hr => ?_, fun s h => ?_, fun strap s h => ?_⟩
  · exact answered_of_run (runRestart_ok (sc := .traffic) (by rw [hx]; rfl)) rfl h hok
  · exact answered_of_run (runRestart_ok (sc := .full) (by rw [hx]; rfl)) rfl h hok
  · exact answered_of_run (runRestart_badValue hx) rfl h fun _ => rfl
  · rw [exec_inCore rfl hp, expireDeadline, hr]
  · rw [exec_inCore rfl hp, exec_coreReset strap (by simp [hp])]
    simp only [performRestart, hr]
  · have hdone : performRestart strap s = trafficRestart s := by simp only [performRestart, hr]
    obtain ⟨hcutA, hcutB⟩ := cancel_both s
    refine ⟨_, (exec_inCore rfl hp).trans (congrArg _ hdone), ?_, trafficRestart_queue s, ?_, ?_, fun l => ?_⟩
    · rw [trafficRestart_frame]
      simp only [State.reset, Store.rebuilt]
    · rw [trafficRestart_frame]
      exact hcutA
    · rw [trafficRestart_frame]
      exact hcutB
    · rw [trafficRestart_agent]
      exact ⟨rfl, trafficRestart_order _, restartedSlot_eq _⟩
  · exact inCore_self (expireDeadline_other h)
  · exact inCore_self (performRestart_other h)

/-! ### Supplies (R49, R60) -/

/-- R49: without main supply a command of the core domain changes nothing. -/
theorem inCore_unpowered {f : State → State} {s : State} (h : s.supply ≠ .main) : inCore f s = .next s := by
  rw [inCore_eq, if_neg h]

/-- Settles O7: every command of the core domain is taken in it, and the others are the ones the statement leaves out. -/
theorem supplyLossStopsCoreDomain : Obligations.SupplyLossStopsCoreDomain := by
  refine ⟨fun s h => ?_, fun s h => ?_, fun c s hs hnot hreset hpower => ?_⟩
  · simp only [exec, execMainSupplyLoss, if_pos h]
  · simp only [exec, execVbakLoss, if_pos h]
  · cases c
    case coreReset strap => exact absurd rfl (hreset strap)
    case powerOnWithTimeLoss strap => exact absurd rfl (hpower strap)
    case mainSupplyLoss => simp only [exec, execMainSupplyLoss, if_neg hs]
    case secondStep => simp at hnot
    case minuteBoundary => simp at hnot
    case oscillatorStop => simp at hnot
    case crystalReturn => simp at hnot
    case grantPresent => simp at hnot
    case grantLoss => simp at hnot
    case vbakLoss => simp at hnot
    all_goals exact inCore_unpowered hs

end Sys2Proof.Machine
end

section
/-! SUPPORT and CERTIFICATE. The receiver events (chapter 7): hunts, delimiters and escapes, a data octet held, stored or
rejected, the bad ends of a frame, and the end of a rejected one. -/

namespace Sys2Proof.Machine

/-! ### Taking a receiver event -/

/-- A receiver event in its own state. -/
theorem exec_inState {c : Instr} {f : State → State} {st : RxState} {l : Line} {s : State}
    (hc : exec c s = inCore (inState st l f) s) (hp : s.supply = .main) (hs : (s.receiver l).state = st) :
    exec c s = .next (f s) := by
  rw [exec_inCore hc hp, inState, if_pos hs]

/-- A receiver event in another state. -/
theorem exec_otherState {c : Instr} {f : State → State} {st : RxState} {l : Line} {s : State}
    (hc : exec c s = inCore (inState st l f) s) (hs : (s.receiver l).state ≠ st) : exec c s = .next s := by
  have hkept : inState st l f s = s := if_neg hs
  rw [hc, inCore_self hkept]

/-- R128: an aligned octet in its own state: its bits are noted, and it is taken. -/
theorem exec_aligned {c : Instr} {take : Octet → State → State} {st : RxState} {l : Line} {o : Octet} {s : State}
    (hc : exec c s = inCore (inState st l (alignedOctet l o take)) s) (hp : s.supply = .main)
    (hs : (s.receiver l).state = st) :
    exec c s = .next (take o (setReceiver l { s.receiver l with recent := recentAfter (s.receiver l) o } s)) := by
  rw [exec_inState hc hp hs, alignedOctet_eq]

/-! ### An octet in IN_FRAME (R129) -/

/-- R129: the data octet that an aligned octet is. -/
theorem takeInFrame_data {l : Line} {o d : Octet} {s : State}
    (hd : if (s.receiver l).escapePending then o ≠ 0xC3 ∧ d = o ^^^ 0x10 else o ≠ 0xC3 ∧ o ≠ 0xC9 ∧ d = o) :
    takeInFrame l o s = takeData l d s := by
  cases hp : (s.receiver l).escapePending with
  | true =>
    obtain ⟨ho, rfl⟩ : o ≠ 0xC3 ∧ d = o ^^^ 0x10 := by rwa [if_pos hp] at hd
    rw [takeInFrame, if_pos hp, if_neg ho]
  | false =>
    obtain ⟨ho, ho', rfl⟩ : o ≠ 0xC3 ∧ o ≠ 0xC9 ∧ d = o := by rwa [if_neg (by simp [hp])] at hd
    rw [takeInFrame, if_neg (by simp [hp]), if_neg ho, if_neg ho']

/-- R129: an escape begins. -/
theorem takeInFrame_escape {l : Line} {s : State} (h : (s.receiver l).escapePending = false) :
    takeInFrame l 0xC9 s = setReceiver l { s.receiver l with escapePending := true } s := by
  rw [takeInFrame, if_neg (by simp [h]), if_neg (by decide), if_pos rfl]

/-- R137: a delimiter closes the frame. -/
theorem takeInFrame_close {l : Line} {s : State} (h : (s.receiver l).escapePending = false) :
    takeInFrame l 0xC3 s = closeFrame l s := by
  rw [takeInFrame, if_neg (by simp [h]), if_pos rfl]

/-- R139: a delimiter after an escape abandons it. -/
theorem takeInFrame_abandon {l : Line} {s : State} (h : (s.receiver l).escapePending = true) :
    takeInFrame l 0xC3 s = abandonFrame l s := by
  rw [takeInFrame, if_pos h, if_pos rfl]

theorem exec_dataOctet {l : Line} {o d : Octet} {s : State} (hp : s.supply = .main)
    (hs : (s.receiver l).state = .inFrame)
    (hd : if (s.receiver l).escapePending then o ≠ 0xC3 ∧ d = o ^^^ 0x10 else o ≠ 0xC3 ∧ o ≠ 0xC9 ∧ d = o) :
    exec (.dataOctet l o) s =
      .next (takeData l d (setReceiver l { s.receiver l with recent := recentAfter (s.receiver l) o } s)) := by
  rw [exec_aligned rfl hp hs, takeInFrame_data (by rw [receiver_setReceiver_same]; exact hd)]

/-- R128, R133: what a data octet leaves of a receiver before it is held. -/
def Receiver.counting (r : Receiver) (o : Octet) : Receiver :=
  { r with recent := recentAfter r o, escapePending := false, decoded := r.decoded + 1 }

/-- R133: a data octet while two are held: the older goes to the store. -/
theorem exec_dataOctet_released {l : Line} {o d x y : Octet} {s : State} (hp : s.supply = .main)
    (hs : (s.receiver l).state = .inFrame)
    (hd : if (s.receiver l).escapePending then o ≠ 0xC3 ∧ d = o ^^^ 0x10 else o ≠ 0xC3 ∧ o ≠ 0xC9 ∧ d = o)
    (hheld : (s.receiver l).held = [x, y]) :
    exec (.dataOctet l o) s = .next (releaseHeld l x d (setReceiver l ((s.receiver l).counting o) s)) := by
  rw [exec_dataOctet hp hs hd, takeData_long (by rw [receiver_setReceiver_same]; exact hheld), receiver_setReceiver_same,
    setReceiver_setReceiver]
  rfl

/-- Settles O36: each item by the branch of its state that takes it. -/
theorem receiverTakesDelimitersAndEscapes : Obligations.ReceiverTakesDelimitersAndEscapes := by
  intro l o bits s hp
  refine ⟨fun hs => ⟨fun n hn => ?_, fun hn => ?_⟩, fun hs => ⟨?_, ?_, fun h3 h9 => ?_⟩,
    fun hs => ⟨fun he => ?_, fun he hheld => ?_, fun he hheld => ?_⟩⟩
  · rw [exec_inState (l := l) rfl hp hs, hunting_found hn, leaveSeeking, receiver_setReceiver_same, setReceiver_setReceiver]
  · rw [exec_inState (l := l) rfl hp hs, hunting_passed hn]
  · rw [exec_aligned rfl hp hs, takeBetween, if_pos rfl]
  · rw [exec_aligned rfl hp hs, takeBetween, if_neg (by decide), if_pos rfl, beginFrame, receiver_setReceiver_same,
      setReceiver_setReceiver]
  · rw [exec_aligned rfl hp hs, takeBetween, if_neg h3, if_neg h9, beginFrame, receiver_setReceiver_same,
      setReceiver_setReceiver, takeData_short (by simp), receiver_setReceiver_same, setReceiver_setReceiver]
    rfl
  · rw [exec_aligned rfl hp hs, takeInFrame_escape (by rw [receiver_setReceiver_same]; exact he),
      receiver_setReceiver_same, setReceiver_setReceiver]
  · exact (exec_aligned rfl hp hs).trans (exec_aligned rfl hp hs).symm
  · rw [exec_aligned rfl hp hs,
      takeInFrame_data (d := 0xD9) (by rw [receiver_setReceiver_same, if_pos he]; decide),
      takeData_short (by rw [receiver_setReceiver_same]; exact hheld), receiver_setReceiver_same,
      setReceiver_setReceiver]

/-! ### A data octet that is stored (R114, R115, R133) -/

/-- Settles O37: fewer than two octets held, or an octet stored without a claim. -/
theorem dataOctetHeldOrStored : Obligations.DataOctetHeldOrStored := by
  intro l o d s hp hs hd
  refine ⟨fun hheld => ?_, fun x y h hheld hh hfull hmax => ?_⟩
  · rw [exec_dataOctet hp hs hd, takeData_short (by rw [receiver_setReceiver_same]; exact hheld),
      receiver_setReceiver_same, setReceiver_setReceiver]
  · have hhandle : ((setReceiver l ((s.receiver l).counting o) s).receiver l).handle = some h := by
      rw [receiver_setReceiver_same]
      exact hh
    have hstored := storeOctet_unclaimed (o := x) hhandle hfull
    have hexec := exec_dataOctet_released hp hs hd hheld
    rw [releaseHeld_stored (by rw [receivedLength_of_handle hhandle]; exact hmax) hstored,
      receiver_setReceiver_same] at hexec
    refine ⟨_, hexec, rfl, ?_, rfl, fun b => ?_, fun hwf a => ?_⟩
    · show (s.rx.set l _).set l _ = _
      rw [perLine_set_set]
      simp only [Receiver.counting, hheld, List.tail_cons, List.cons_append, List.nil_append, hh]
    · exact table_set_get ..
    · have hread := fun a => memRead_memWrite_other s.store.mem
        (blockAddr ((s.record h).chain.getLastD h) ((s.record h).length % 64)) a x hwf
      split
      · subst a
        exact memRead_memWrite_same _ _ _ hwf
      · exact hread _ ‹_›

/-- R115, R123: a claim that succeeds. -/
theorem claim_eq {l : Line} {s : State} {b : Block} {rest : List Block} (hf : s.store.free = b :: rest)
    (ha : l = .a → s.settings.reserve < rest.length + 1) :
    claim l s = some (b, lowTest { s with store := { s.store with free := rest } }) := by
  have hs : claimSucceeds l s = true := by
    cases l with
    | a => simpa [claimSucceeds, State.freeCount, hf] using ha rfl
    | b => simp [claimSucceeds, State.freeCount, hf]
  simp only [claim, if_pos hs, hf]

/-- R114, R115: an octet that claims a block goes to the first position of that block. -/
theorem storeOctet_claimed {l : Line} {x : Octet} {s : State} {b h : Block} {rest : List Block} {r : FrameRecord}
    (hf : s.store.free = b :: rest) (ha : l = .a → s.settings.reserve < rest.length + 1)
    (hr : ((s.receiver l).handle = none ∧ h = b ∧ r = { s.record b with line := l, length := 1, chain := [b] }) ∨
      ((s.receiver l).handle = some h ∧ (s.record h).length % 64 = 0 ∧
        r = { s.record h with length := (s.record h).length + 1, chain := (s.record h).chain ++ [b] })) :
    ∃ t, storeOctet l x s = some (h, t) ∧
      t = { s with
            store := { mem := memWrite s.store.mem (64 * b.val) x, free := rest
                       records := s.store.records.set h.val r h.isLt, armed := t.store.armed }
            events := t.events } ∧
      (lowTest { s with store := { s.store with free := rest } }).store.armed = t.store.armed ∧
      (lowTest { s with store := { s.store with free := rest } }).events = t.events := by
  have hc := claim_eq hf ha
  rcases hr with ⟨hh, rfl, rfl⟩ | ⟨hh, hfull, rfl⟩
  · refine ⟨_, storeOctet_first hh hc, ?_, rfl, rfl⟩
    rw [openRecord, putOctet_setRecord]
    rfl
  · refine ⟨_, storeOctet_later hh hfull hc, ?_, rfl, rfl⟩
    rw [extendChain, putOctet_setRecord, List.getLastD_concat, record_lowTest]
    have haddr : blockAddr b ((s.record h).length % 64) = 64 * b.val := by rw [hfull]; rfl
    simp only [show State.record { s with store := { s.store with free := rest } } h = s.record h from rfl, haddr]
    rfl

/-- R123: the STORE_LOW test of a claim that leaves these blocks free. -/
theorem lowTest_low {s : State} (ha : s.store.armed = true) (hl : s.freeCount ≤ s.settings.lowWater) :
    (lowTest s).store.armed = false ∧ (lowTest s).events = (raise .storeLow s).events := by
  simp [lowTest, ha, hl, raise]

theorem lowTest_high {s : State} (h : s.store.armed = false ∨ s.settings.lowWater < s.freeCount) :
    (lowTest s).store.armed = s.store.armed ∧ (lowTest s).events = s.events := by
  rcases h with h | h
  · simp [lowTest, h]
  · simp [lowTest, Nat.not_le.mpr h]

/-- Settles O38: a claim takes the head of the free list, and the octet goes to its first position. -/
theorem dataOctetClaimsBlock : Obligations.DataOctetClaimsBlock := by
  intro l o d x y b rest s hp hs hd hheld hf ha hwf h r hr
  have hreceiver := receiver_setReceiver_same l ((s.receiver l).counting o) s
  have hmax : (setReceiver l ((s.receiver l).counting o) s).receivedLength l + 1 ≤ s.settings.maxFrameLength := by
    rw [receivedLength_setReceiver (r := (s.receiver l).counting o) rfl]
    rcases hr with ⟨hh, hm, -, -⟩ | ⟨hh, -, hm, -⟩
    · rw [receivedLength_of_none hh]
      exact hm
    · rw [receivedLength_of_handle hh]
      exact hm
  obtain ⟨t, hst, ht, harmed, hevents⟩ := storeOctet_claimed (x := x) (h := h) (r := r)
    (s := setReceiver l ((s.receiver l).counting o) s) hf ha (by
      rw [hreceiver]
      exact hr.imp (fun ⟨hh, _, hb, hrec⟩ => ⟨hh, hb, hrec⟩) fun ⟨hh, hfull, _, hrec⟩ => ⟨hh, hfull, hrec⟩)
  have hexec := exec_dataOctet_released hp hs hd hheld
  rw [releaseHeld_stored hmax hst, hreceiver] at hexec
  generalize harm : t.store.armed = arm at ht harmed
  generalize hev : t.events = ev at ht hevents
  subst ht
  refine ⟨_, hexec, rfl, ?_, rfl, fun k => ?_, fun a => ?_, fun hlow hw => ?_, fun hhigh => ?_⟩
  · show (s.rx.set l _).set l _ = _
    rw [perLine_set_set]
    simp only [Receiver.counting, hheld, List.tail_cons, List.cons_append, List.nil_append]
  · exact table_set_get ..
  · split
    · subst a
      exact memRead_memWrite_same _ _ _ hwf
    · exact memRead_memWrite_other _ _ _ _ hwf ‹_›
  · obtain ⟨h1, h2⟩ := lowTest_low
      (s := { setReceiver l ((s.receiver l).counting o) s with store := { s.store with free := rest } }) hlow hw
    refine ⟨harmed.symm.trans h1, ?_⟩
    have hraised := raise_raised s.settings.noticeRepeat .storeLow s.events
    exact (hevents.symm.trans h2) ▸ hraised
  · obtain ⟨h1, h2⟩ := lowTest_high
      (s := { setReceiver l ((s.receiver l).counting o) s with store := { s.store with free := rest } }) hhigh
    exact ⟨harmed.symm.trans h1, hevents.symm.trans h2⟩

/-! ### A data octet that rejects the frame (R135, R136) -/

/-- R118: intake's release leaves everything but the store. -/
theorem releaseReceiving_frame (h : Option Block) (s : State) :
    releaseReceiving h s = { s with store := (releaseReceiving h s).store } := by
  cases h <;> rfl

/-- R118: with no block claimed there is nothing to release. -/
theorem releaseReceiving_none {h : Option Block} (hh : h = none) (s : State) :
    (releaseReceiving h s).store = s.store := by
  rw [hh]
  rfl

theorem releaseReceiving_some {o : Option Block} {h : Block} (hh : o = some h) (s : State) :
    (releaseReceiving o s).store =
      { s.store with free := s.store.free ++ (s.record h).chain
                     armed := s.armedAfter (s.record h).chain.length } := by
  rw [hh]
  rfl

/-- Settles O39: the length test, then the claim. -/
theorem longFrameOrFailedClaimRejects : Obligations.LongFrameOrFailedClaimRejects := by
  intro l o x y why s hp hs ho hheld hwhy
  obtain ⟨d, hd⟩ : ∃ d, if (s.receiver l).escapePending then o ≠ 0xC3 ∧ d = o ^^^ 0x10
      else o ≠ 0xC3 ∧ o ≠ 0xC9 ∧ d = o := by
    split
    · exact ⟨_, by simpa [*] using ho, rfl⟩
    · have h : o ≠ 0xC3 ∧ o ≠ 0xC9 := by rw [if_neg ‹_›] at ho; exact ho
      exact ⟨_, h.1, h.2, rfl⟩
  have hlength : (setReceiver l ((s.receiver l).counting o) s).receivedLength l = s.receivedLength l :=
    receivedLength_setReceiver rfl
  have hreject : releaseHeld l x d (setReceiver l ((s.receiver l).counting o) s) =
      reject l why (setReceiver l ((s.receiver l).counting o) s) := by
    rcases hwhy with ⟨rfl, hlong⟩ | ⟨rfl, hmax, hneed, hfree⟩
    · exact releaseHeld_long (by rw [hlength]; exact hlong)
    · refine releaseHeld_failed (by rw [hlength]; exact hmax) (storeOctet_eq_none_iff.mpr ⟨claim_none.mpr ?_, ?_⟩)
      · cases l with
        | a => exact decide_eq_false (Nat.not_lt.mpr hfree)
        | b =>
          have hempty : s.store.free = [] := hfree
          simp [claimSucceeds, State.freeCount, hempty]
      · rw [hlength]
        rcases hneed with hh | hmod
        · rw [receivedLength_of_none hh]
        · exact hmod
  rw [reject, receiver_setReceiver_same, releaseReceiving_setReceiver, setReceiver_setReceiver] at hreject
  refine ⟨_, (exec_dataOctet_released hp hs hd hheld).trans (congrArg _ hreject), ?_, ?_, fun hh => ?_, fun h hh => ?_⟩
  · rw [releaseReceiving_frame]
    rfl
  · rw [releaseReceiving_frame]
    rfl
  · exact releaseReceiving_none hh s
  · exact releaseReceiving_some hh s

/-! ### The bad ends of a frame (R137, R139) -/

/-- R137, R139: what the bad ends of a frame share: the chain is released, the receiver is in BETWEEN, a counter counts
and, in two of the three, an event is raised. -/
def dropFrame (l : Line) (k : LineCounter) (e : Option Event) (s : State) : State :=
  let t := bump (.line l k) (releaseReceiving (s.receiver l).handle (setReceiver l (s.receiver l).atDelimiter s))
  match e with
  | none => t
  | some ev => raise ev t

theorem closeFrame_runt {l : Line} {s : State} (h : (s.receiver l).decoded ≤ 4) :
    closeFrame l s = dropFrame l .runts none s := if_pos h

theorem closeFrame_checkError {l : Line} {s : State} (h : 5 ≤ (s.receiver l).decoded)
    (hc : (s.receiver l).check ≠ heldCheck (s.receiver l).held) :
    closeFrame l s = dropFrame l .checkErrors (some .checkError) s := by
  simp only [closeFrame, if_neg (Nat.not_le.mpr h), if_neg hc]
  rfl

theorem abandonFrame_eq (l : Line) (s : State) : abandonFrame l s = dropFrame l .aborts (some .frameAbort) s := rfl

/-- R118, R137, R139: what a bad end leaves, where the receiver has noted the bits that ended the frame. -/
theorem dropFrame_effect (l : Line) (k : LineCounter) (e : Option Event) (w : Word16) (s : State) :
    ∃ t, dropFrame l k e (setReceiver l { s.receiver l with recent := w } s) = t ∧
      t = { s with rx := t.rx, store := t.store, counters := t.counters, events := t.events } ∧
      t.rx = s.rx.set l { s.receiver l with
        state := .between, recent := w, aligned := true, escapePending := false, decoded := 0, held := [], reject := none
        handle := none } ∧
      t.store = (releaseReceiving (s.receiver l).handle s).store ∧
      t.counters = (bump (.line l k) s).counters ∧
      (e = none → t.events = s.events) ∧ ∀ ev, e = some ev → Raised s.settings.noticeRepeat ev s.events t.events := by
  refine ⟨_, rfl, ?_⟩
  simp only [dropFrame, receiver_setReceiver_same, releaseReceiving_setReceiver, setReceiver_setReceiver,
    Receiver.atDelimiter]
  rw [releaseReceiving_frame]
  cases e with
  | none => exact ⟨rfl, rfl, rfl, rfl, fun _ => rfl, fun _ h => by cases h⟩
  | some ev =>
    refine ⟨rfl, rfl, rfl, rfl, (by simp), fun ev' h => ?_⟩
    obtain rfl : ev = ev' := by simpa using h
    exact raise_raised ..

/-- Settles O40: a runt, a check error and an abandoned frame are each a bad end with its counter and event. -/
theorem badFrameEndsRelease : Obligations.BadFrameEndsRelease := by
  intro l c k e s hp hs hcase
  have hexec : exec c s = .next (dropFrame l k e (setReceiver l { s.receiver l with
      recent := if c = .cancelMarker l then 0xC9C3 else recentAfter (s.receiver l) 0xC3 } s)) := by
    rcases hcase with ⟨rfl, he, hd, rfl, rfl⟩ | ⟨rfl, he, hd, rfl, rfl, hi, lo, hheld, hcheck⟩ |
      ⟨rfl, rfl, rfl | ⟨rfl, he⟩⟩
    · rw [exec_aligned rfl hp hs, if_neg (by simp), takeInFrame_close (by rw [receiver_setReceiver_same]; exact he),
        closeFrame_runt (by rw [receiver_setReceiver_same]; exact hd)]
    · rw [exec_aligned rfl hp hs, if_neg (by simp), takeInFrame_close (by rw [receiver_setReceiver_same]; exact he),
        closeFrame_checkError (by rw [receiver_setReceiver_same]; exact hd)
          (by rw [receiver_setReceiver_same, hheld]; exact hcheck)]
    · rw [exec_inState (l := l) rfl hp hs, if_pos rfl, abandonFrame_eq]
    · rw [exec_aligned rfl hp hs, if_neg (by simp), takeInFrame_abandon (by rw [receiver_setReceiver_same]; exact he),
        abandonFrame_eq]
  obtain ⟨t, ht, hrest, hrx, hstore, hcounters, hevents⟩ := dropFrame_effect l k e
    (if c = .cancelMarker l then 0xC9C3 else recentAfter (s.receiver l) 0xC3) s
  obtain ⟨hcounted, huncounted⟩ := counted_one hcounters
  exact ⟨t, hexec.trans (congrArg _ ht), hrest, hrx, fun hh => hstore.trans (releaseReceiving_none hh s),
    fun h hh => hstore.trans (releaseReceiving_some hh s), hcounted, huncounted, hevents⟩

/-! ### The end of a rejected frame (R140) -/

theorem countRejected_for {l : Line} {s : State} {k : LineCounter} {e : Event}
    (h : countRejected l s = raise e (bump (.line l k) s)) :
    Counted (.line l k) 1 s (countRejected l s) ∧ OthersUncounted [.line l k] s (countRejected l s) ∧
      Raised s.settings.noticeRepeat e s.events (countRejected l s).events := by
  obtain ⟨hcounted, huncounted⟩ := counted_one (c := .line l k) (n := 1) (s := s) (t := countRejected l s) (by rw [h]; rfl)
  refine ⟨hcounted, huncounted, ?_⟩
  rw [h]
  exact raise_raised ..

/-- R140: the count of a rejected frame is an effect on counters and events. -/
theorem countRejected_frame (l : Line) (s : State) :
    countRejected l s = { s with counters := (countRejected l s).counters, events := (countRejected l s).events } := by
  unfold countRejected
  split <;> rfl

/-- Settles O41: the hunt of DISCARDING, and the count for the reason that the frame was rejected. -/
theorem discardingEndsAtDelimiter : Obligations.DiscardingEndsAtDelimiter := by
  intro l bits o s hp hs
  refine ⟨⟨exec_otherState rfl (by simp [hs]), exec_otherState rfl (by simp [hs]), exec_otherState rfl (by simp [hs])⟩,
    fun hn => ?_, ?_⟩
  · rw [exec_inState (l := l) rfl hp hs, hunting_passed hn]
  · intro n hn
    generalize hw : bitsAfter (s.receiver l).recent bits n = w
    intro before
    have hexec : exec (.discardingDelimiter l bits) s =
        .next (leaveDiscarding l (setReceiver l { s.receiver l with recent := w } s)) := by
      rw [exec_inState (l := l) rfl hp hs, hunting_found hn, hw]
    generalize hu : setReceiver l { s.receiver l with recent := w } s = u at hexec
    have hr : u.receiver l = { s.receiver l with recent := w } := by rw [← hu, receiver_setReceiver_same]
    have hrx : u.rx.set l (u.receiver l).atDelimiter = s.rx.set l { s.receiver l with
        state := .between, recent := w, aligned := true, escapePending := false, decoded := 0, held := [], reject := none
        handle := none } := by
      rw [hr, ← hu]
      exact perLine_set_set ..
    have hbefore : earlierBits (u.receiver l).recent = before := by rw [hr]; rfl
    refine ⟨_, hexec, ?_⟩
    rw [leaveDiscarding, hbefore]
    by_cases hc9 : before = 0xC9
    · rw [if_pos hc9]
      refine ⟨?_, hrx, fun _ => ?_, fun h => absurd hc9 h, fun h => absurd hc9 h⟩
      · subst hu
        rfl
      · subst hu
        exact ⟨rfl, rfl⟩
    · rw [if_neg hc9]
      have hrej : ∀ {w}, (s.receiver l).reject = w → (u.receiver l).reject = w := fun h => by rw [hr]; exact h
      refine ⟨?_, ?_, fun h => absurd h hc9, fun _ hlong => ?_, fun _ hdrop => ?_⟩
      · rw [countRejected_frame]
        subst hu
        rfl
      · rw [countRejected_frame]
        exact hrx
      · have hcount := countRejected_for (l := l) (s := u) (k := .longFrames) (e := .longFrame)
          (by simp only [countRejected, hrej hlong])
        subst hu
        exact hcount
      · have hcount := countRejected_for (l := l) (s := u) (k := .storeDrops) (e := .storeDrop)
          (by simp only [countRejected, hrej hdrop])
        subst hu
        exact hcount

end Sys2Proof.Machine
end

section
/-! SUPPORT and CERTIFICATE. The frame-end event (R88, R89, R99, R100, R138), and the free count over every event of line
A's receiver (R115). -/

namespace Sys2Proof.Machine

/-! ### A complete frame (R117, R138) -/

/-- R117, R137: the state in which a frame ends: the receiver in BETWEEN, the record complete, the frame counted good. -/
def frameCompleted (l : Line) (h : Block) (s : State) : State :=
  bump (.line l .goodFrames)
    (setRecord h { s.record h with stamp := s.uptime, matched := none, attempts := 0 }
      (setReceiver l
        { s.receiver l with
          state := .between, recent := recentAfter (s.receiver l) 0xC3
          aligned := true, escapePending := false, decoded := 0, held := [], reject := none
          handle := none } s))

/-- R137: a delimiter completes a frame whose check is good. -/
theorem closeFrame_complete {l : Line} {h : Block} {s : State} (hd : 5 ≤ (s.receiver l).decoded)
    (hc : (s.receiver l).check = heldCheck (s.receiver l).held) (hh : (s.receiver l).handle = some h) :
    closeFrame l s =
      completeFrame l h ((s.receiver l).decoded - 2) (setReceiver l (s.receiver l).atDelimiter s) := by
  simp only [closeFrame, if_neg (Nat.not_le.mpr hd), if_pos hc, hh]

/-- R137, R138: CLOSING_DELIMITER with a good check is the frame-end event. -/
theorem exec_closingDelimiter {l : Line} {hi lo : Octet} {h : Block} {s : State} (hp : s.supply = .main)
    (hs : (s.receiver l).state = .inFrame) (he : (s.receiver l).escapePending = false)
    (hd : 5 ≤ (s.receiver l).decoded) (hheld : (s.receiver l).held = [hi, lo]) (hc : (s.receiver l).check = hi ++ lo)
    (hh : (s.receiver l).handle = some h) (hlen : (s.record h).length = (s.receiver l).decoded - 2) :
    exec (.closingDelimiter l) s = .next (frameEnd l h (frameCompleted l h s)) := by
  have hr := receiver_setReceiver_same l { s.receiver l with recent := recentAfter (s.receiver l) 0xC3 } s
  rw [exec_aligned rfl hp hs, takeInFrame_close (by rw [hr]; exact he),
    closeFrame_complete (by rw [hr]; exact hd) (by rw [hr, hheld]; exact hc) (by rw [hr]; exact hh), hr,
    setReceiver_setReceiver, completeFrame, completeRecord, ← hlen]
  rfl

/-- R114: a frame's octets are read by its length and chain alone. -/
theorem frameOctets_frameCompleted (l : Line) (h : Block) (s : State) :
    (frameCompleted l h s).store.frameOctets h = s.store.frameOctets h := by
  simp only [Store.frameOctets, frameCompleted, bump, bumpBy, setRecord, table_set_get_same]
  rfl

theorem record_frameCompleted (l : Line) (h b : Block) (s : State) :
    (frameCompleted l h s).record b =
      if b = h then { s.record h with stamp := s.uptime, matched := none, attempts := 0 } else s.record b :=
  table_set_get ..

/-! ### Delivery (R99, R100) -/

/-- R96, R100: the state in which a frame is delivered: its record has the deciding entry, and the hit is counted. -/
def frameClassified (l : Line) (h : Block) (decided : Option EntryIx) (s : State) : State :=
  bump (hitCounter l decided) (setRecord h { s.record h with matched := decided } s)

theorem frameEnd_classified {l : Line} {h : Block} {s : State} (hr : s.recognises (s.store.frameOctets h) = false) :
    frameEnd l h s = deliver h (s.verdict l (s.classifier.decide l (s.store.frameOctets h)))
      (frameClassified l h (s.classifier.decide l (s.store.frameOctets h)) s) := by
  simp only [frameEnd, if_neg (Bool.not_eq_true _ ▸ hr)]
  rfl

/-- R99: a delivery writes the free list, the queues, counters and events. -/
theorem deliver_frame (h : Block) (v : Verdict) (s : State) :
    deliver h v s =
      { s with
        store := { s.store with free := (deliver h v s).store.free, armed := (deliver h v s).store.armed }
        queues := (deliver h v s).queues, counters := (deliver h v s).counters, events := (deliver h v s).events } := by
  cases v with
  | discard => rfl
  | forward q =>
    rw [deliver]
    by_cases hq : (s.queue q).count < (s.queue q).limit
    · rw [join_below hq]
      rfl
    · rw [join_at_limit hq]
      rfl

/-- R99: of the counters a delivery writes those of queues alone. -/
theorem deliver_count {h : Block} {v : Verdict} {s : State} {c : Counter} (hc : ∀ q k, c ≠ .queue q k) :
    (deliver h v s).count c = s.count c := by
  have hother : ∀ q k u, (bumpBy (.queue q k) 1 u).count c = u.count c := fun q k u =>
    count_bumpBy_other _ _ _ _ fun he => hc q k (Counter.place_injective he)
  cases v with
  | discard => rfl
  | forward q =>
    rw [deliver]
    by_cases hq : (s.queue q).count < (s.queue q).limit
    · rw [join_below hq]
      exact hother q .joined _
    · rw [join_at_limit hq]
      exact hother q .fullDrops (releaseFrame h s)

theorem hitCounter_ne_line (l l' : Line) (decided : Option EntryIx) (k : LineCounter) :
    Counter.line l' k ≠ hitCounter l decided := by
  cases decided <;> cases l <;> simp [hitCounter]

theorem hitCounter_ne_queue (l : Line) (decided : Option EntryIx) (q : QueueIx) (k : QueueCounter) :
    hitCounter l decided ≠ .queue q k := by
  cases decided <;> cases l <;> simp [hitCounter]

/-- Settles O42: the frame ends complete, is classified, and is delivered by its verdict. -/
theorem completeFrameIsClassified : Obligations.CompleteFrameIsClassified := by
  intro l hi lo h s os decided hp hs he hd hheld hc hh hlen hos hrec hdec
  subst hos hdec
  have hexec := exec_closingDelimiter hp hs he hd hheld hc hh hlen
  rw [frameEnd_classified (by rw [frameOctets_frameCompleted]; exact hrec), frameOctets_frameCompleted] at hexec
  generalize hdec : s.classifier.decide l (s.store.frameOctets h) = decided
  have hdec' : (frameCompleted l h s).classifier.decide l (s.store.frameOctets h) = decided := hdec
  rw [hdec'] at hexec
  have hv : (frameCompleted l h s).verdict l decided = s.verdict l decided := rfl
  rw [hv] at hexec
  generalize hw : frameClassified l h decided (frameCompleted l h s) = w at hexec
  have hwframe : w = { s with rx := w.rx, store := { s.store with records := w.store.records }, counters := w.counters } := by
    rw [← hw]
    rfl
  have hwrx : w.rx = s.rx.set l { s.receiver l with
      state := .between, recent := recentAfter (s.receiver l) 0xC3
      aligned := true, escapePending := false, decoded := 0, held := [], reject := none
      handle := none } := by
    rw [← hw]
    rfl
  have hwrec : ∀ b, w.record b =
      if b = h then { s.record h with stamp := s.uptime, matched := decided, attempts := 0 } else s.record b := by
    intro b
    have hset : w.record b =
        if b = h then { (frameCompleted l h s).record h with matched := decided } else (frameCompleted l h s).record b := by
      rw [← hw]
      exact table_set_get ..
    rw [hset, record_frameCompleted, record_frameCompleted, if_pos rfl]
    split <;> rfl
  have hwchain : (w.record h).chain = (s.record h).chain := by rw [hwrec, if_pos rfl]
  have hwcounters : w.counters = (bumpBy (hitCounter l decided) 1 (bumpBy (.line l .goodFrames) 1 s)).counters := by
    rw [← hw]
    rfl
  obtain ⟨hgood, hhit, -⟩ := counted_two (t := w) (hitCounter_ne_line l l decided .goodFrames) hwcounters
  generalize hverdict : s.verdict l decided = v at hexec
  refine ⟨_, hexec, ?_, ?_, fun b => ?_, ?_, ?_, ?_, fun q hq hlim => ?_, fun q hq hlim => ?_, fun hq => ?_⟩
  · rw [deliver_frame, hwframe]
  · rw [deliver_frame]
    exact hwrx
  · rw [deliver_frame]
    exact hwrec b
  · rw [deliver_frame, hwframe]
  · rw [Counted, deliver_count (by simp)]
    exact hgood
  · rw [Counted, deliver_count (hitCounter_ne_queue l decided)]
    exact hhit
  · subst hq
    have hbelow : (w.queue q).count < (w.queue q).limit := by rw [hwframe]; exact hlim
    obtain ⟨-, -, hjoined, hothers⟩ := counted_three (t := deliver h (.forward q) w) (e := .queue q .joined) (p := 1)
      (hitCounter_ne_line l l decided .goodFrames) (by simp) (hitCounter_ne_queue l decided q .joined) (by
        rw [deliver, join_below hbelow, bump, bumpBy, bumpBy, ← hwcounters]
        rfl)
    refine ⟨?_, ?_, ?_, ?_, hjoined, hothers⟩
    all_goals
      rw [deliver, join_below hbelow, hwframe]
      rfl
  · subst hq
    have hfull : ¬(w.queue q).count < (w.queue q).limit := by rw [hwframe]; exact Nat.not_lt.mpr hlim
    obtain ⟨-, -, hdropped, hothers⟩ := counted_three (t := deliver h (.forward q) w) (e := .queue q .fullDrops) (p := 1)
      (hitCounter_ne_line l l decided .goodFrames) (by simp) (hitCounter_ne_queue l decided q .fullDrops) (by
        rw [deliver, join_at_limit hfull, bumpBy, ← hwcounters]
        rfl)
    refine ⟨?_, ?_, ?_, ?_, hdropped, hothers⟩
    · rw [deliver, join_at_limit hfull, hwframe]
      rfl
    · rw [deliver, join_at_limit hfull, ← hwchain, hwframe]
      rfl
    · rw [deliver, join_at_limit hfull, ← hwchain, hwframe]
      rfl
    · rw [deliver, join_at_limit hfull, hwframe]
      exact raise_raised ..
  · subst hq
    obtain ⟨-, -, hothers⟩ := counted_two (t := deliver h .discard w) (hitCounter_ne_line l l decided .goodFrames) hwcounters
    refine ⟨?_, ?_, ?_, ?_, hothers⟩
    · rw [deliver, hwframe]
      rfl
    · rw [deliver, ← hwchain, hwframe]
      rfl
    · rw [deliver, ← hwchain, hwframe]
      rfl
    · rw [deliver, hwframe]
      rfl

/-! ### Recognition (R89, R148) -/

theorem frameEnd_recognised {l : Line} {h : Block} {s : State} {os : List Octet} (hos : s.store.frameOctets h = os)
    (hr : s.recognises os = true) :
    frameEnd l h s = takePayload l (frameOctet os 1) (os.drop 3) (releaseFrame h s) := by
  subst hos
  exact if_pos hr

/-- R153: the form of a request, which has at least a sequence and a code. -/
theorem takePayload_malformed {l : Line} {src : Octet} {payload : List Octet} {s : State} (h : payload.length < 2) :
    takePayload l src payload s = bump (.mgmt .malformed) s := by
  match payload with
  | [] => rfl
  | [_] => rfl
  | _ :: _ :: _ => simp at h

/-- Settles O43: the frame ends complete, leaves the store, and is taken as the command of its code. -/
theorem recognisedRequestIsTaken : Obligations.RecognisedRequestIsTaken := by
  intro l hi lo src h s payload hp hm hs he hd hheld hc hh hlen hos
  have hexec := exec_closingDelimiter hp hs he hd hheld hc hh hlen
  have hrec : (frameCompleted l h s).recognises ([s.station, src, 0xE1] ++ payload) = true := by
    have hm' : (frameCompleted l h s).managed = true := hm
    rw [State.recognises, hm', Bool.true_and, Bool.and_eq_true]
    exact ⟨beq_self_eq_true s.station, rfl⟩
  rw [frameEnd_recognised ((frameOctets_frameCompleted l h s).trans hos) hrec] at hexec
  have hchain : ((frameCompleted l h s).record h).chain = (s.record h).chain := by
    rw [record_frameCompleted, if_pos rfl]
  obtain ⟨hcounted, huncounted⟩ := counted_one (c := .line l .goodFrames) (n := 1) (s := s)
    (t := releaseFrame h (frameCompleted l h s)) rfl
  refine ⟨releaseFrame h (frameCompleted l h s), rfl, rfl, ?_, rfl, ?_, fun b => record_frameCompleted l h b s, hcounted,
    huncounted, fun seq code ps hpay => ?_, fun hshort => ?_⟩
  · rw [releaseFrame_free, hchain]
    rfl
  · rw [releaseFrame, hchain]
    rfl
  · subst hpay
    rw [hexec, exec_unauthorised (s := releaseFrame h (frameCompleted l h s)) hp hm]
    rfl
  · obtain ⟨hmal, hothers⟩ := counted_one (c := .mgmt .malformed) (n := 1)
      (s := releaseFrame h (frameCompleted l h s))
      (t := bump (.mgmt .malformed) (releaseFrame h (frameCompleted l h s))) rfl
    exact ⟨_, hexec.trans (congrArg _ (takePayload_malformed hshort)), rfl, hmal, hothers⟩

/-! ### The reserve (R115) -/

/-- R112: a release adds to the free list. -/
theorem freeCount_releaseReceiving (o : Option Block) (s : State) : s.freeCount ≤ (releaseReceiving o s).freeCount := by
  cases o with
  | none => exact le_refl _
  | some h => simp [releaseReceiving, State.freeCount]

theorem freeCount_releaseFrame (h : Block) (s : State) : s.freeCount ≤ (releaseFrame h s).freeCount := by
  simp [State.freeCount]

/-- R15: a flush adds to the free list. -/
theorem freeCount_flushQueue (q : QueueIx) (s : State) : s.freeCount ≤ (flushQueue q s).freeCount := by
  rw [flushQueue_eq]
  simp [State.freeCount]

/-- R158: no execution takes a block from the free list. -/
theorem Effect.freeCount_le {l : Line} {i : SlotIx} {s u : State} (h : Effect l i s u) : s.freeCount ≤ u.freeCount := by
  cases h with
  | flush => exact freeCount_flushQueue ..
  | trunkStopped =>
    rw [stopTrunk]
    split <;> exact le_refl _
  | activation copy =>
    rw [activate]
    exact le_refl _
  | _ => exact le_refl _

theorem freeCount_execute (run : Execution) (r : Request) (i : SlotIx) (s : State) :
    (execute run r i s).freeCount = (run r.line i r.params s).state.freeCount := rfl

theorem freeCount_answer (r : Request) (i : SlotIx) (st : Status) (data : List Octet) (s : State) :
    (answer r i st data s).freeCount = s.freeCount := rfl

/-- R153: no request takes a block from the free list. -/
theorem freeCount_takeRequest (r : Request) (s : State) : s.freeCount ≤ (takeRequest (runOf r.code) r s).freeCount := by
  rw [takeRequest]
  split
  · rw [takeAuthorised]
    split
    · exact le_refl _
    · rw [takeWithSlot]
      split
      · exact le_refl _
      · split
        · rw [freeCount_answer]
        · rw [freeCount_execute]
          exact (runOf_effect r.code r.line _ r.params s).freeCount_le
  · exact le_refl _
  · have hdenied : (answerDenied r s).freeCount = s.freeCount := by
      rw [answerDenied]
      split <;> rfl
    exact hdenied.ge

theorem freeCount_takePayload (l : Line) (src : Octet) (payload : List Octet) (s : State) :
    s.freeCount ≤ (takePayload l src payload s).freeCount := by
  unfold takePayload
  split
  · exact le_refl _
  · exact le_refl _
  · exact freeCount_takeRequest _ s

theorem freeCount_frameEnd (l : Line) (h : Block) (s : State) : s.freeCount ≤ (frameEnd l h s).freeCount := by
  have hdeliver : ∀ v (u : State), u.freeCount ≤ (deliver h v u).freeCount := by
    intro v u
    cases v with
    | discard => exact freeCount_releaseFrame h u
    | forward q =>
      rw [deliver, join]
      split
      · exact le_refl _
      · exact freeCount_releaseFrame h u
  rw [frameEnd]
  split
  · exact (freeCount_releaseFrame h s).trans (freeCount_takePayload ..)
  · have hclassified := hdeliver (s.verdict l (s.classifier.decide l (s.store.frameOctets h)))
      (frameClassified l h (s.classifier.decide l (s.store.frameOctets h)) s)
    exact hclassified

theorem freeCount_closeFrame (l : Line) (s : State) : s.freeCount ≤ (closeFrame l s).freeCount := by
  have hrelease := freeCount_releaseReceiving (s.receiver l).handle (setReceiver l (s.receiver l).atDelimiter s)
  rw [closeFrame]
  split
  · exact hrelease
  · split
    · split
      · exact le_refl _
      · rename_i h _
        have hend := freeCount_frameEnd l h (bump (.line l .goodFrames) (completeRecord h ((s.receiver l).decoded - 2)
          (setReceiver l (s.receiver l).atDelimiter s)))
        exact hend
    · exact hrelease

/-- R115: an octet that line A stores leaves the reserve, where it takes a block at all. -/
theorem reserve_le_storeOctet {x : Octet} {s t : State} {h : Block} (hst : storeOctet .a x s = some (h, t)) :
    min s.freeCount s.settings.reserve ≤ t.freeCount := by
  have hclaim : s.receivedLength .a % 64 = 0 → s.settings.reserve < s.freeCount := by
    intro hmod
    have hsome : claim .a s ≠ none := fun hc => by
      rw [storeOctet_eq_none_iff.mpr ⟨hc, hmod⟩] at hst
      cases hst
    rw [ne_eq, claim_none, Bool.not_eq_false] at hsome
    exact of_decide_eq_true hsome
  obtain ⟨claimed, -, -, hfree, hlen, -⟩ := storeOctet_some hst
  have hcount : s.freeCount = claimed.length + t.freeCount := by
    rw [State.freeCount, hfree, List.length_append, State.freeCount]
  split at hlen
  · have := hclaim ‹_›
    omega
  · omega

theorem reserve_le_takeData (o : Octet) (s : State) : min s.freeCount s.settings.reserve ≤ (takeData .a o s).freeCount := by
  have hreject : ∀ why u, u.freeCount ≤ (reject .a why u).freeCount := fun why u =>
    freeCount_releaseReceiving (u.receiver .a).handle u
  have hreleased : ∀ x u, min u.freeCount u.settings.reserve ≤ (releaseHeld .a x o u).freeCount := by
    intro x u
    rw [releaseHeld]
    split
    · exact (min_le_left _ _).trans (hreject _ u)
    · split
      · exact (min_le_left _ _).trans (hreject _ u)
      · rename_i hst
        have hstored := reserve_le_storeOctet hst
        exact hstored
  by_cases hshort : (s.receiver .a).held.length < 2
  · rw [takeData_short hshort]
    exact min_le_left _ _
  · obtain ⟨x, y, zs, hheld⟩ : ∃ x y zs, (s.receiver .a).held = x :: y :: zs := by
      match hh : (s.receiver .a).held with
      | [] => simp [hh] at hshort
      | [x] => simp [hh] at hshort
      | x :: y :: zs => exact ⟨x, y, zs, rfl⟩
    rw [takeData_long hheld]
    have hlong := hreleased x (setReceiver .a
      { s.receiver .a with escapePending := false, decoded := (s.receiver .a).decoded + 1 } s)
    exact hlong

theorem freeCount_abandonFrame (l : Line) (s : State) : s.freeCount ≤ (abandonFrame l s).freeCount := by
  have hrelease := freeCount_releaseReceiving (s.receiver l).handle (setReceiver l (s.receiver l).atDelimiter s)
  exact hrelease

theorem reserve_le_takeInFrame (o : Octet) (s : State) :
    min s.freeCount s.settings.reserve ≤ (takeInFrame .a o s).freeCount := by
  rw [takeInFrame]
  split_ifs
  · exact (min_le_left _ _).trans (freeCount_abandonFrame ..)
  · exact reserve_le_takeData ..
  · exact (min_le_left _ _).trans (freeCount_closeFrame ..)
  · exact min_le_left _ _
  · exact reserve_le_takeData ..

theorem reserve_le_takeBetween (o : Octet) (s : State) :
    min s.freeCount s.settings.reserve ≤ (takeBetween .a o s).freeCount := by
  rw [takeBetween]
  split_ifs
  · exact min_le_left _ _
  · exact min_le_left _ _
  · exact reserve_le_takeData o (beginFrame .a false s)

/-- The hunt, where it finds a delimiter, leaves the free list. -/
theorem freeCount_hunting {l : Line} {bits : List Bool} {found : State → State} {s : State}
    (h : ∀ u, (found u).store = u.store) : (hunting l bits found s).freeCount = s.freeCount := by
  rw [hunting]
  dsimp only
  split
  · rw [State.freeCount, h]
    rfl
  · rfl

theorem leaveDiscarding_store (l : Line) (s : State) : (leaveDiscarding l s).store = s.store := by
  rw [leaveDiscarding]
  split
  · rfl
  · rw [countRejected_frame]
    rfl

/-- A receiver event that keeps the reserve does so as a command. -/
theorem reserve_le_exec {c : Instr} {f : State → State} {st : RxState} {s t : State}
    (hc : exec c s = inCore (inState st .a f) s) (h : min s.freeCount s.settings.reserve ≤ (f s).freeCount)
    (ht : exec c s = .next t) : min s.freeCount s.settings.reserve ≤ t.freeCount := by
  rw [hc, inCore, Host.Outcome.next.injEq] at ht
  rw [← ht, inState]
  split_ifs
  · exact h
  · exact min_le_left _ _
  · exact min_le_left _ _

/-- Settles O46: of the receiver's events a claim alone takes a block, and it tests the reserve first. -/
theorem outboundClaimsKeepReserve : Obligations.OutboundClaimsKeepReserve := by
  intro s t o bits c hc ht
  have haligned : ∀ o, min s.freeCount s.settings.reserve ≤ (alignedOctet .a o (takeInFrame .a) s).freeCount := fun o => by
    rw [alignedOctet_eq]
    exact reserve_le_takeInFrame o (setReceiver .a { s.receiver .a with recent := recentAfter (s.receiver .a) o } s)
  simp only [List.mem_cons, List.not_mem_nil, or_false] at hc
  rcases hc with rfl | rfl | rfl | rfl | rfl | rfl | rfl
  · exact reserve_le_exec rfl (haligned o) ht
  · refine reserve_le_exec rfl ?_ ht
    rw [alignedOctet_eq]
    exact reserve_le_takeBetween o (setReceiver .a { s.receiver .a with recent := recentAfter (s.receiver .a) o } s)
  · exact reserve_le_exec rfl (haligned 0xC9) ht
  · exact reserve_le_exec rfl (haligned 0xC3) ht
  · have habandon := freeCount_abandonFrame .a (setReceiver .a { s.receiver .a with recent := 0xC9C3 } s)
    exact reserve_le_exec (f := fun s => abandonFrame .a (setReceiver .a { s.receiver .a with recent := 0xC9C3 } s)) rfl
      ((min_le_left _ _).trans habandon) ht
  · have hkept : (hunting .a bits (leaveSeeking .a) s).freeCount = s.freeCount := freeCount_hunting fun _ => rfl
    exact reserve_le_exec rfl ((min_le_left _ _).trans hkept.ge) ht
  · have hkept := freeCount_hunting (s := s) (bits := bits) (l := .a) (leaveDiscarding_store .a)
    exact reserve_le_exec rfl ((min_le_left _ _).trans hkept.ge) ht

end Sys2Proof.Machine
end

section
/-! SUPPORT and CERTIFICATE. A frame as a transmitter sends it, taken by a receiver (R129, R142): its escapes undone, its
octets stored one after another, and its end the frame-end event. -/

namespace Sys2Proof.Machine

/-! ### Escapes (R129, R142) -/

/-- R133: a data octet is taken the same whether an escape was before it. -/
theorem takeData_setEscape (l : Line) (o : Octet) (p : Bool) (s : State) :
    takeData l o (setReceiver l { s.receiver l with escapePending := p } s) = takeData l o s := by
  simp only [takeData, receiver_setReceiver_same, setReceiver_setReceiver]

/-- R133: a data octet taken leaves no escape pending. -/
theorem takeData_escapePending (l : Line) (o : Octet) (s : State) :
    ((takeData l o s).receiver l).escapePending = false := by
  rw [takeData]
  split
  · simp only [receiver_setReceiver_same]
  · simp only [receiver_setReceiver_same]
  · rw [releaseHeld]
    split
    · simp only [reject, receiver_setReceiver_same]
    · split <;> simp only [reject, receiver_setReceiver_same]

/-- R142: the octet sent after an escape is neither marker, and stands for the octet escaped. -/
theorem escaped_octet {o : Octet} (h : o = 0xC3 ∨ o = 0xC9) : o ^^^ 0x10 ≠ 0xC3 ∧ o = (o ^^^ 0x10) ^^^ 0x10 := by
  rcases h with rfl | rfl <;> decide

theorem takeInFrame_escaped {l : Line} {o : Octet} {s : State} (h : (s.receiver l).escapePending = false) :
    (escapeOctet o).foldl (fun s o => takeInFrame l o s) s = takeData l o s := by
  rw [escapeOctet]
  split
  · obtain ⟨hne, heq⟩ := escaped_octet ‹_›
    rw [List.foldl_cons, List.foldl_cons, List.foldl_nil, takeInFrame_escape h,
      takeInFrame_data (d := o) (by rw [receiver_setReceiver_same, if_pos rfl]; exact ⟨hne, heq⟩), takeData_setEscape]
  · rename_i hplain
    rw [not_or] at hplain
    rw [List.foldl_cons, List.foldl_nil,
      takeInFrame_data (d := o) (by rw [if_neg (by simp [h])]; exact ⟨hplain.1, hplain.2, rfl⟩)]

/-- Settles O19, by induction on the octets: no escape is pending after each. -/
theorem escapedOctetsAreDecoded : Obligations.EscapedOctetsAreDecoded := by
  intro l os
  induction os with
  | nil => exact fun _ _ => rfl
  | cons o os ih =>
    intro s h
    rw [List.flatMap_cons, List.foldl_append, takeInFrame_escaped h, List.foldl_cons]
    exact ih _ (takeData_escapePending l o s)

/-! ### The octets of a frame in the store (R114, R115) -/

/-- R114, R115: the octets of a frame are stored from the state `s` on, in the blocks at the head of its free list. -/
structure StoredFrom (l : Line) (s : State) (h : Block) (os : List Octet) (u : State) : Prop where
  free : u.store.free = s.store.free.drop (chainLength os.length)
  record : os ≠ [] → (u.record h).line = l ∧ (u.record h).length = os.length ∧
    (u.record h).chain = s.store.free.take (chainLength os.length)
  canonical : Memory.wf u.store.mem = true
  octets : ∀ k < os.length, memRead u.store.mem (blockAddr (s.store.free.getD (k / 64) 0) (k % 64)) = os.getD k 0

/-- R3, R115: the store has room for a frame of so many octets from the line. -/
def RoomFor (l : Line) (s : State) (n : Nat) : Prop :=
  n ≤ s.settings.maxFrameLength ∧ (if l = .a then s.settings.reserve else 0) + chainLength n ≤ s.freeCount

theorem RoomFor.mono {l : Line} {s : State} {n m : Nat} (h : RoomFor l s n) (hm : m ≤ n) : RoomFor l s m := by
  obtain ⟨hmax, hfree⟩ := h
  refine ⟨hm.trans hmax, le_trans (Nat.add_le_add_left ?_ _) hfree⟩
  simp only [chainLength]
  omega

theorem chainLength_add_one (n : Nat) : chainLength (n + 1) = n / 64 + 1 := by
  simp only [chainLength]
  omega

/-- R3: the chain is as long as before the octet, unless the octet needs a claim. -/
theorem chainLength_eq (n : Nat) : chainLength n = if n % 64 = 0 then n / 64 else n / 64 + 1 := by
  simp only [chainLength]
  split <;> omega

/-- R111: the positions of blocks that stand once are different addresses. -/
theorem blockAddr_ne {free : List Block} {k n : Nat} (hnodup : free.Nodup) (hn : n / 64 < free.length) (hk : k < n) :
    blockAddr (free.getD (k / 64) 0) (k % 64) ≠ blockAddr (free.getD (n / 64) 0) (n % 64) := by
  intro heq
  obtain ⟨hblock, hpos⟩ := blockAddr_injective _ _ _ _ (Nat.mod_lt _ (by decide)) (Nat.mod_lt _ (by decide)) heq
  rw [List.getD_eq_getElem _ _ (by omega), List.getD_eq_getElem _ _ hn, hnodup.getElem_inj_iff] at hblock
  omega

/-- R114, R115: where the next octet of a frame goes, and what its record and the free list are then. -/
theorem StoredFrom.storeOctet_eq {l : Line} {s u : State} {h : Block} {os : List Octet} (x : Octet)
    (hst : StoredFrom l s h os u) (hhead : s.store.free.head? = some h)
    (hhandle : (u.receiver l).handle = if os = [] then none else some h) (hset : u.settings = s.settings)
    (hroom : RoomFor l s (os.length + 1)) :
    ∃ t, storeOctet l x u = some (h, t) ∧ t = { u with store := t.store, events := t.events } ∧
      t.store.mem = memWrite u.store.mem (blockAddr (s.store.free.getD (os.length / 64) 0) (os.length % 64)) x ∧
      t.store.free = s.store.free.drop (chainLength (os.length + 1)) ∧ (t.record h).line = l ∧
      (t.record h).length = os.length + 1 ∧ (t.record h).chain = s.store.free.take (chainLength (os.length + 1)) := by
  have hlt : os.length / 64 < s.store.free.length := by
    have hfree := hroom.2
    rw [chainLength_add_one, State.freeCount] at hfree
    omega
  have hlast := List.take_append_getElem hlt
  have hgetD := List.getD_eq_getElem s.store.free (0 : Block) hlt
  by_cases hmod : os.length % 64 = 0
  · have hfree : u.store.free = s.store.free[os.length / 64] :: s.store.free.drop (os.length / 64 + 1) := by
      rw [hst.free, chainLength_eq, if_pos hmod, List.drop_eq_getElem_cons hlt]
    have hreserve : l = .a → u.settings.reserve < (s.store.free.drop (os.length / 64 + 1)).length + 1 := by
      rintro rfl
      have hfree := hroom.2
      rw [if_pos rfl, chainLength_add_one, State.freeCount] at hfree
      rw [hset, List.length_drop]
      omega
    obtain ⟨r, hr, hline, hlength, hchain⟩ : ∃ r : FrameRecord,
        (((u.receiver l).handle = none ∧ h = s.store.free[os.length / 64] ∧
            r = { u.record s.store.free[os.length / 64] with
                  line := l, length := 1, chain := [s.store.free[os.length / 64]] }) ∨
          ((u.receiver l).handle = some h ∧ (u.record h).length % 64 = 0 ∧
            r = { u.record h with length := (u.record h).length + 1
                                  chain := (u.record h).chain ++ [s.store.free[os.length / 64]] })) ∧
        r.line = l ∧ r.length = os.length + 1 ∧ r.chain = s.store.free.take (os.length / 64 + 1) := by
      by_cases hos : os = []
      · subst hos
        have hb : s.store.free[0]'hlt = h := by
          rw [List.head?_eq_getElem?, List.getElem?_eq_some_iff] at hhead
          exact hhead.2
        exact ⟨_, .inl ⟨hhandle, hb.symm, rfl⟩, rfl, rfl, hlast⟩
      · obtain ⟨hl, hn, hc⟩ := hst.record hos
        rw [if_neg hos] at hhandle
        refine ⟨_, .inr ⟨hhandle, by rw [hn]; exact hmod, rfl⟩, hl, by rw [hn], ?_⟩
        rw [hc, chainLength_eq, if_pos hmod]
        exact hlast
    obtain ⟨t, hstore, ht, -⟩ := storeOctet_claimed (x := x) hfree hreserve hr
    have hrec : t.record h = r := by
      rw [ht]
      exact table_set_get_same ..
    rw [chainLength_add_one]
    refine ⟨t, hstore, ?_, ?_, ?_, hrec ▸ hline, hrec ▸ hlength, hrec ▸ hchain⟩
    · rw [ht]
    · rw [ht, hgetD, hmod]
      rfl
    · rw [ht]
  · have hos : os ≠ [] := by
      rintro rfl
      exact hmod rfl
    obtain ⟨hl, hn, hc⟩ := hst.record hos
    rw [if_neg hos] at hhandle
    rw [chainLength_eq, if_neg hmod] at hc
    rw [chainLength_add_one]
    refine ⟨_, storeOctet_unclaimed hhandle (by rw [hn]; exact hmod), rfl, ?_, ?_, ?_⟩
    · rw [putOctet_eq, hgetD, hc, hn, ← hlast, List.getLastD_concat]
    · rw [putOctet_eq, hst.free, chainLength_eq, if_neg hmod]
    · have hrec : (putOctet h x u).record h = { u.record h with length := (u.record h).length + 1 } :=
        table_set_get_same ..
      rw [hrec]
      exact ⟨hl, by rw [hn], hc⟩

/-- R114: one more octet of the frame is stored. -/
theorem StoredFrom.step {l : Line} {s u : State} {h : Block} {os : List Octet} (x : Octet) (hst : StoredFrom l s h os u)
    (hhead : s.store.free.head? = some h) (hnodup : s.store.free.Nodup)
    (hhandle : (u.receiver l).handle = if os = [] then none else some h) (hset : u.settings = s.settings)
    (hroom : RoomFor l s (os.length + 1)) :
    ∃ t, storeOctet l x u = some (h, t) ∧ t = { u with store := t.store, events := t.events } ∧
      StoredFrom l s h (os ++ [x]) t := by
  obtain ⟨t, hstore, ht, hmem, hfree, hrec⟩ := hst.storeOctet_eq x hhead hhandle hset hroom
  have hlength : (os ++ [x]).length = os.length + 1 := by simp
  have hlt : os.length / 64 < s.store.free.length := by
    have hfree := hroom.2
    rw [chainLength_add_one, State.freeCount] at hfree
    omega
  refine ⟨t, hstore, ht, by rw [hlength]; exact hfree, fun _ => by rw [hlength]; exact hrec, ?_, fun k hk => ?_⟩
  · rw [hmem]
    exact memWrite_wf _ _ _ hst.canonical
  · rw [hlength] at hk
    rcases Nat.lt_succ_iff_lt_or_eq.mp hk with hk | rfl
    · rw [hmem, memRead_memWrite_other _ _ _ _ hst.canonical (blockAddr_ne hnodup hlt hk), hst.octets k hk,
        List.getD_append _ _ _ _ hk]
    · rw [hmem, memRead_memWrite_same _ _ _ hst.canonical, List.getD_append_right _ _ _ _ (le_refl _), Nat.sub_self]
      rfl

/-! ### A receiver in the midst of a frame (R133) -/

/-- R133: from the state `s` on the receiver has stored the octets `os` of a frame, and holds `held`. -/
structure Receiving (l : Line) (s : State) (h : Block) (os held : List Octet) (u : State) : Prop where
  frame : u = { s with rx := u.rx, store := u.store, events := u.events }
  inFrame : (u.receiver l).state = .inFrame
  decoded : (u.receiver l).decoded = os.length + held.length
  holding : (u.receiver l).held = held
  check : (u.receiver l).check = checkValue os
  handle : (u.receiver l).handle = if os = [] then none else some h
  stored : StoredFrom l s h os u
  atMostTwo : held.length ≤ 2
  heldFirst : held.length < 2 → os = []

/-- R128: what the receiver notes of bits and escapes leaves what it has of the frame. -/
theorem Receiving.noted {l : Line} {s u : State} {h : Block} {os held : List Octet} (hr : Receiving l s h os held u)
    (w : Word16) (p : Bool) :
    Receiving l s h os held (setReceiver l { u.receiver l with recent := w, escapePending := p } u) := by
  have hreceiver := receiver_setReceiver_same l { u.receiver l with recent := w, escapePending := p } u
  refine ⟨?_, ?_, ?_, ?_, ?_, ?_, ⟨hr.stored.free, hr.stored.record, hr.stored.canonical, hr.stored.octets⟩,
    hr.atMostTwo, hr.heldFirst⟩
  · rw [hr.frame]
    rfl
  all_goals rw [hreceiver]
  · exact hr.inFrame
  · exact hr.decoded
  · exact hr.holding
  · exact hr.check
  · exact hr.handle

theorem Receiving.settings_eq {l : Line} {s u : State} {h : Block} {os held : List Octet}
    (hr : Receiving l s h os held u) : u.settings = s.settings := by rw [hr.frame]

theorem Receiving.supply_eq {l : Line} {s u : State} {h : Block} {os held : List Octet}
    (hr : Receiving l s h os held u) : u.supply = s.supply := by rw [hr.frame]

/-- R133: a data octet while fewer than two are held. -/
theorem Receiving.holds {l : Line} {s u : State} {h : Block} {os held : List Octet} (d : Octet)
    (hr : Receiving l s h os held u) (hshort : held.length < 2) :
    Receiving l s h os (held ++ [d]) (takeData l d u) := by
  obtain rfl := hr.heldFirst hshort
  rw [takeData_short (by rw [hr.holding]; exact hshort)]
  have hreceiver := receiver_setReceiver_same l { u.receiver l with
    escapePending := false, decoded := (u.receiver l).decoded + 1, held := (u.receiver l).held ++ [d] } u
  refine ⟨?_, ?_, ?_, ?_, ?_, ?_, ⟨hr.stored.free, hr.stored.record, hr.stored.canonical, hr.stored.octets⟩, ?_,
    fun _ => rfl⟩
  · rw [hr.frame]
    rfl
  any_goals rw [hreceiver]
  · exact hr.inFrame
  · simp [hr.decoded]
  · simp [hr.holding]
  · exact hr.check
  · exact hr.handle
  · rw [List.length_append, List.length_singleton]
    omega

/-- R133: a data octet while two are held: the older is stored. -/
theorem Receiving.stores {l : Line} {s u : State} {h : Block} {os : List Octet} {x y : Octet} (d : Octet)
    (hr : Receiving l s h os [x, y] u) (hhead : s.store.free.head? = some h) (hnodup : s.store.free.Nodup)
    (hroom : RoomFor l s (os.length + 1)) : Receiving l s h (os ++ [x]) [y, d] (takeData l d u) := by
  have hreceiver := receiver_setReceiver_same l
    { u.receiver l with escapePending := false, decoded := (u.receiver l).decoded + 1 } u
  generalize hv : setReceiver l { u.receiver l with escapePending := false, decoded := (u.receiver l).decoded + 1 } u = v
    at hreceiver
  have hstored : StoredFrom l s h os v := by
    rw [← hv]
    exact ⟨hr.stored.free, hr.stored.record, hr.stored.canonical, hr.stored.octets⟩
  have hset : v.settings = s.settings := by rw [← hv]; exact hr.settings_eq
  have hhandle : (v.receiver l).handle = if os = [] then none else some h := by rw [hreceiver]; exact hr.handle
  have hlength : v.receivedLength l = os.length := by
    by_cases hos : os = []
    · rw [receivedLength_of_none (by rw [hhandle, if_pos hos]), hos]
      rfl
    · rw [receivedLength_of_handle (by rw [hhandle, if_neg hos]), (hstored.record hos).2.1]
  obtain ⟨t, hstore, ht, hstep⟩ := hstored.step x hhead hnodup hhandle hset hroom
  rw [takeData_long hr.holding, hv, releaseHeld_stored (by rw [hlength, hset]; exact hroom.1) hstore, hreceiver]
  generalize hw : ({ state := (u.receiver l).state, recent := (u.receiver l).recent
                     aligned := (u.receiver l).aligned, escapePending := false
                     decoded := (u.receiver l).decoded + 1, held := (u.receiver l).held.tail ++ [d]
                     check := checkOctet (u.receiver l).check x, reject := (u.receiver l).reject
                     handle := some h } : Receiver) = w
  have hreceiver' := receiver_setReceiver_same l w t
  refine ⟨?_, ?_, ?_, ?_, ?_, ?_, ⟨hstep.free, hstep.record, hstep.canonical, hstep.octets⟩, le_refl _,
    fun hlt => absurd hlt (by simp)⟩
  · rw [ht, ← hv, hr.frame]
    rfl
  all_goals rw [hreceiver', ← hw]
  · exact hr.inFrame
  · simp only [hr.decoded, List.length_append, List.length_cons, List.length_nil]
  · simp [hr.holding]
  · rw [checkValue, List.foldl_append, List.foldl_cons, List.foldl_nil, ← checkValue, hr.check]
  · simp

/-- R133: a data octet taken, whatever is held. -/
theorem Receiving.takes {l : Line} {s u : State} {h : Block} {os held : List Octet} {n : Nat} (d : Octet)
    (hr : Receiving l s h os held u) (hhead : s.store.free.head? = some h) (hnodup : s.store.free.Nodup)
    (hroom : RoomFor l s n) (hn : os.length + held.length + 1 ≤ n + 2) :
    ∃ os' held', os' ++ held' = os ++ held ++ [d] ∧ Receiving l s h os' held' (takeData l d u) := by
  by_cases hshort : held.length < 2
  · exact ⟨os, held ++ [d], by simp, hr.holds d hshort⟩
  · obtain ⟨x, y, rfl⟩ : ∃ x y, held = [x, y] :=
      List.length_eq_two.mp (le_antisymm hr.atMostTwo (Nat.not_lt.mp hshort))
    exact ⟨os ++ [x], [y, d], by simp, hr.stores d hhead hnodup (hroom.mono (by simpa using hn))⟩

/-! ### The commands of a frame -/

theorem runCommands_next {c : Instr} {cs : List Instr} {s t : State} (h : exec c s = .next t) :
    runCommands (c :: cs) s = runCommands cs t := by
  simp only [runCommands, h]

/-- R129, R142: the commands of one octet as sent, in the midst of a frame, are the taking of that octet. -/
theorem Receiving.runCommands_octet {l : Line} {s u : State} {h : Block} {os held : List Octet} (d : Octet)
    (cs : List Instr) (hr : Receiving l s h os held u) (hp : s.supply = .main)
    (he : (u.receiver l).escapePending = false) :
    ∃ v, Receiving l s h os held v ∧
      runCommands ((escapeOctet d).map (.dataOctet l) ++ cs) u = runCommands cs (takeData l d v) := by
  have hpu : u.supply = .main := hr.supply_eq.trans hp
  rw [escapeOctet]
  split
  · have hv := hr.noted (recentAfter (u.receiver l) 0xC9) true
    have hpending : ((setReceiver l
        { u.receiver l with recent := recentAfter (u.receiver l) 0xC9, escapePending := true } u).receiver
        l).escapePending = true := by rw [receiver_setReceiver_same]
    have hescape : exec (.dataOctet l 0xC9) u = .next (setReceiver l
        { u.receiver l with recent := recentAfter (u.receiver l) 0xC9, escapePending := true } u) := by
      have htaken : exec (.dataOctet l 0xC9) u = exec (.escape l) u := rfl
      rw [htaken, exec_aligned rfl hpu hr.inFrame, takeInFrame_escape (by rw [receiver_setReceiver_same]; exact he),
        receiver_setReceiver_same, setReceiver_setReceiver]
    generalize setReceiver l
      { u.receiver l with recent := recentAfter (u.receiver l) 0xC9, escapePending := true } u = v at hv hpending hescape
    have hdata : exec (.dataOctet l (d ^^^ 0x10)) v = .next (takeData l d (setReceiver l
        { v.receiver l with recent := recentAfter (v.receiver l) (d ^^^ 0x10) } v)) :=
      exec_dataOctet (hv.supply_eq.trans hp) hv.inFrame (by rw [if_pos hpending]; exact escaped_octet ‹_›)
    refine ⟨_, hv.noted (recentAfter (v.receiver l) (d ^^^ 0x10)) (v.receiver l).escapePending, ?_⟩
    rw [List.map_cons, List.map_cons, List.map_nil, List.cons_append, List.cons_append, List.nil_append,
      runCommands_next hescape, runCommands_next hdata]
  · rename_i hplain
    rw [not_or] at hplain
    refine ⟨_, hr.noted (recentAfter (u.receiver l) d) (u.receiver l).escapePending, ?_⟩
    exact runCommands_next (exec_dataOctet hpu hr.inFrame
      (by rw [if_neg (by simp [he])]; exact ⟨hplain.1, hplain.2, rfl⟩))

/-- R129, R142: the commands of octets as sent, in the midst of a frame. -/
theorem Receiving.runCommands_octets {l : Line} {s : State} {h : Block} {n : Nat} (cs : List Instr) (hp : s.supply = .main)
    (hhead : s.store.free.head? = some h) (hnodup : s.store.free.Nodup) (hroom : RoomFor l s n) (ds : List Octet) :
    ∀ {os held : List Octet} {u : State}, Receiving l s h os held u → (u.receiver l).escapePending = false →
      os.length + held.length + ds.length ≤ n + 2 →
      ∃ os' held' u', os' ++ held' = os ++ held ++ ds ∧ Receiving l s h os' held' u' ∧
        (u'.receiver l).escapePending = false ∧
        runCommands ((ds.flatMap escapeOctet).map (.dataOctet l) ++ cs) u = runCommands cs u' := by
  induction ds with
  | nil => exact fun {os held u} hr he _ => ⟨os, held, u, by simp, hr, he, rfl⟩
  | cons d ds ih =>
    intro os held u hr he hn
    rw [List.length_cons] at hn
    obtain ⟨v, hv, hrun⟩ := hr.runCommands_octet d ((ds.flatMap escapeOctet).map (.dataOctet l) ++ cs) hp he
    obtain ⟨os', held', hall, hr'⟩ := hv.takes d hhead hnodup hroom (by omega)
    have hcount : os'.length + held'.length = os.length + held.length + 1 := by
      have hlen := congrArg List.length hall
      simpa [Nat.add_assoc] using hlen
    obtain ⟨os'', held'', u', hall', hr'', he', hrun'⟩ := ih hr' (takeData_escapePending l d v) (by omega)
    refine ⟨os'', held'', u', by rw [hall', hall, List.append_assoc, List.singleton_append], hr'', he', ?_⟩
    rw [List.flatMap_cons, List.map_append, List.append_assoc, hrun, hrun']

/-- R132: the state in which the first octet of a frame is taken. -/
theorem Receiving.begun {l : Line} {s : State} {h : Block} (hwf : Memory.wf s.store.mem = true) (w : Word16)
    (escape : Bool) (hnone : (s.receiver l).handle = none) :
    Receiving l s h [] [] (beginFrame l escape (setReceiver l { s.receiver l with recent := w } s)) := by
  have hreceiver : (beginFrame l escape (setReceiver l { s.receiver l with recent := w } s)).receiver l =
      { s.receiver l with
        state := .inFrame, recent := w, escapePending := escape, decoded := 0, held := [], check := 0xFFFF } := by
    rw [beginFrame, receiver_setReceiver_same, receiver_setReceiver_same]
  refine ⟨rfl, ?_, ?_, ?_, ?_, ?_, ⟨rfl, fun h => absurd rfl h, hwf, fun k hk => absurd hk (by simp)⟩, by simp, fun _ => rfl⟩
  all_goals rw [hreceiver]
  · rfl
  · rfl
  · exact hnone

/-- R132, R142: the commands of the first octet of a frame as sent. -/
theorem runCommands_first {l : Line} {s : State} {h : Block} (d : Octet) (os : List Octet) (hp : s.supply = .main)
    (hs : (s.receiver l).state = .between) (hnone : (s.receiver l).handle = none)
    (hwf : Memory.wf s.store.mem = true) :
    ∃ u, Receiving l s h [] [d] u ∧ (u.receiver l).escapePending = false ∧
      runCommands (lineCommands l (escapeOctet d ++ os)) s =
        runCommands (os.map (.dataOctet l) ++ [.closingDelimiter l]) u := by
  rw [escapeOctet]
  split
  · have hv := Receiving.begun (h := h) hwf (recentAfter (s.receiver l) 0xC9) true hnone
    have hpending : ((beginFrame l true (setReceiver l
        { s.receiver l with recent := recentAfter (s.receiver l) 0xC9 } s)).receiver l).escapePending = true := by
      rw [beginFrame, receiver_setReceiver_same]
    have hescape : exec (.betweenOctet l 0xC9) s = .next (beginFrame l true (setReceiver l
        { s.receiver l with recent := recentAfter (s.receiver l) 0xC9 } s)) := by
      rw [exec_aligned rfl hp hs, takeBetween, if_neg (by decide), if_pos rfl]
    generalize beginFrame l true (setReceiver l
      { s.receiver l with recent := recentAfter (s.receiver l) 0xC9 } s) = v at hv hpending hescape
    have hdata : exec (.dataOctet l (d ^^^ 0x10)) v = .next (takeData l d (setReceiver l
        { v.receiver l with recent := recentAfter (v.receiver l) (d ^^^ 0x10) } v)) :=
      exec_dataOctet (hv.supply_eq.trans hp) hv.inFrame (by rw [if_pos hpending]; exact escaped_octet ‹_›)
    refine ⟨_, (hv.noted (recentAfter (v.receiver l) (d ^^^ 0x10)) (v.receiver l).escapePending).holds d (by simp),
      takeData_escapePending .., ?_⟩
    exact (runCommands_next hescape).trans (runCommands_next hdata)
  · rename_i hplain
    rw [not_or] at hplain
    have hfirst : exec (.betweenOctet l d) s = .next (takeData l d (beginFrame l false (setReceiver l
        { s.receiver l with recent := recentAfter (s.receiver l) d } s))) := by
      rw [exec_aligned rfl hp hs, takeBetween, if_neg hplain.1, if_neg hplain.2]
    exact ⟨_, (Receiving.begun hwf (recentAfter (s.receiver l) d) false hnone).holds d (by simp),
      takeData_escapePending .., runCommands_next hfirst⟩

/-! ### The whole frame -/

/-- R208: the two octets of a word, read together again. -/
theorem be16_append (w : Word16) : (w.extractLsb' 8 8 ++ w.extractLsb' 0 8 : Word16) = w := by
  apply BitVec.eq_of_getLsbD_eq
  intro i hi
  rw [BitVec.getLsbD_append, BitVec.getLsbD_extractLsb', BitVec.getLsbD_extractLsb']
  split
  · simp [*]
  · have hlt : i - 8 < 8 := by omega
    have hsum : 8 + (i - 8) = i := by omega
    simp [hlt, hsum]

/-- R114: the octets of a frame stored from the head of the free list on are read from its chain. -/
theorem StoredFrom.frameOctets_eq {l : Line} {s u : State} {h : Block} {os : List Octet} (hst : StoredFrom l s h os u)
    (hos : os ≠ []) : u.store.frameOctets h = os := by
  obtain ⟨-, hlength, hchain⟩ := hst.record hos
  have hlength' : u.store.records[h].length = os.length := hlength
  have hchain' : u.store.records[h].chain = s.store.free.take (chainLength os.length) := hchain
  rw [Store.frameOctets, hlength', hchain']
  refine List.ext_getElem (by simp) fun k hk hk' => ?_
  rw [List.getElem_map, List.getElem_range, Store.octetAt]
  have hlt : k / 64 < chainLength os.length := by
    simp only [chainLength]
    omega
  have htake : (s.store.free.take (chainLength os.length)).getD (k / 64) 0 = s.store.free.getD (k / 64) 0 := by
    rw [List.getD_eq_getElem?_getD, List.getD_eq_getElem?_getD, List.getElem?_take_of_lt hlt]
  rw [htake, hst.octets k hk', List.getD_eq_getElem _ _ hk']

theorem free_nodup {s : State} (h : BlocksSafe s) : s.store.free.Nodup :=
  (List.nodup_append.mp (h.everyBlockOnce.nodup_iff.mpr allBlocks_nodup)).1

/-- Settles O20: the octets between the delimiters are taken one after another, the last two as the check value. -/
theorem frameSentIsReceivedWhole : Obligations.FrameSentIsReceivedWhole := by
  intro l os body s hstream hmin hmax _ hp hs hblocks hmem hfree
  have hroom : RoomFor l s os.length := ⟨hmax, hfree⟩
  have hnodup := free_nodup hblocks
  have hnone := hblocks.heldInFrame l (by simp [hs])
  obtain ⟨h, hhead⟩ : ∃ h, s.store.free.head? = some h := by
    cases hf : s.store.free with
    | nil =>
      rw [State.freeCount, hf, chainLength, List.length_nil] at hfree
      omega
    | cons b rest => exact ⟨b, rfl⟩
  have hbody : body = (os ++ be16 (checkValue os)).flatMap escapeOctet := by
    rw [frameStream] at hstream
    exact (List.append_cancel_left (List.append_cancel_right hstream)).symm
  obtain ⟨d, ds, hds⟩ : ∃ d ds, os ++ be16 (checkValue os) = d :: ds :=
    List.exists_cons_of_ne_nil (by simp [be16])
  obtain ⟨u, hu, he, hrun⟩ := runCommands_first (h := h) d (ds.flatMap escapeOctet) hp hs hnone hmem.canonical
  have hcount : ds.length = os.length + 1 := by
    have hlen := congrArg List.length hds
    simp only [be16, List.length_append, List.length_cons, List.length_nil] at hlen
    omega
  obtain ⟨os', held, v, hall, hv, hev, hrun'⟩ := Receiving.runCommands_octets [.closingDelimiter l] hp hhead hnodup hroom ds hu he
    (by simp only [List.length_nil, List.length_singleton]; omega)
  rw [List.nil_append, List.singleton_append, ← hds] at hall
  have hheld : held.length = 2 := by
    refine le_antisymm hv.atMostTwo (Nat.not_lt.mp fun hshort => ?_)
    have hlen := congrArg List.length hall
    rw [hv.heldFirst hshort] at hlen
    simp only [be16, List.length_append, List.length_cons, List.length_nil] at hlen
    omega
  obtain ⟨rfl, rfl⟩ := List.append_inj' hall (by simpa [be16] using hheld)
  have hos : os' ≠ [] := List.ne_nil_of_length_pos (by omega)
  obtain ⟨hline, hlength, hchain⟩ := hv.stored.record hos
  have hclose := exec_closingDelimiter (h := h) (hv.supply_eq.trans hp) hv.inFrame hev
    (by rw [hv.decoded, hheld]; omega) hv.holding (by rw [hv.check, be16_append]) (by rw [hv.handle, if_neg hos])
    (by rw [hv.decoded, hheld, hlength]; omega)
  have hcounters : (frameCompleted l h v).counters = (bumpBy (.line l .goodFrames) 1 s).counters := by
    rw [hv.frame]
    rfl
  obtain ⟨hcounted, huncounted⟩ := counted_one hcounters
  refine ⟨h, frameCompleted l h v, hhead, ?_, ?_, ?_, ?_, hv.stored.free, hcounted, huncounted⟩
  · rw [hbody, hds, List.flatMap_cons, hrun, hrun', runCommands_next hclose]
    rfl
  · rw [frameOctets_frameCompleted, hv.stored.frameOctets_eq hos]
  · have huptime : v.uptime = s.uptime := by rw [hv.frame]
    rw [record_frameCompleted, if_pos rfl]
    simp only [hline, hlength, hchain, huptime]
  · have hreceiver := receiver_setReceiver_same l
      { v.receiver l with
        state := .between, recent := recentAfter (v.receiver l) 0xC3
        aligned := true, escapePending := false, decoded := 0, held := [], reject := none
        handle := none } v
    exact congrArg Receiver.state hreceiver

end Sys2Proof.Machine
end

section
/-! SUPPORT and CERTIFICATE. Selections, grants, failed attempts, completions and charges (chapter 4, R34). -/

namespace Sys2Proof.Machine

/-! ### Selections (R65 to R69, R84) -/

/-- R69: a record that requests line B, by the level of B_GNT. -/
theorem selectB_eq {s : State} {src : Source} (h : s.sourceB = some src) :
    selectB s = requestGrant (s.inFlightOf src) (takeSource .b src s) := by
  simp only [selectB, h]

theorem selectB_none {s : State} (h : s.sourceB = none) : selectB s = s := by
  simp only [selectB, h]

theorem exec_selectionB {s : State} (hp : s.supply = .main) (hidle : s.txB = .idle) :
    exec .selectionB s = .next (selectB s) := by
  rw [exec_inCore rfl hp, if_pos hidle]

/-- Settles O48: the source that the selector finds is taken, and the grant requested. -/
theorem selectionBTakesSource : Obligations.SelectionBTakesSource := by
  refine fun s hp => ⟨fun hnone => ?_, fun i hidle hsrc => ?_, fun q h hidle hsrc => ?_⟩
  · rw [exec_inCore rfl hp]
    split
    · rw [selectB_none (hnone.resolve_left (not_not.mpr ‹_›))]
    · rfl
  · rw [exec_selectionB hp hidle, selectB_eq hsrc, requestGrant]
    simp only [State.inFlightOf, takeSource, inFlightOctets, slotOctets_startSending]
    rfl
  · rw [exec_selectionB hp hidle, selectB_eq hsrc]
    rfl

theorem selectA_none {s : State} (h : s.sourceA = none) (hidle : s.txA = .idle) : selectA s = s := by
  simp only [selectA, h]
  rw [← hidle]

/-- Settles O49. -/
theorem selectionATakesSource : Obligations.SelectionATakesSource := by
  refine ⟨fun s hp => ⟨fun hnone => ?_, fun hidle => ?_⟩, fun s l i f hf => ?_⟩
  · rw [exec_inCore rfl hp]
    split
    · rename_i hidle
      rw [selectA_none (hnone.resolve_left (not_not.mpr hidle)) hidle]
    · rfl
  · exact ⟨_, (exec_inCore rfl hp).trans (congrArg _ (if_pos hidle)), selectA_selected s⟩
  · simp only [slotOctets, hf]

/-! ### Grants and the hold-off (R69, R71, R75) -/

theorem grantTimerRuns_iff (s : State) : s.grantTimerRuns = true ↔ ∃ f, s.txB = .requesting f := by
  cases h : s.txB <;> simp [State.grantTimerRuns, h]

theorem holdoffTimerRuns_iff (s : State) : s.holdoffTimerRuns = true ↔ s.txB = .holdoff := by
  cases h : s.txB <;> simp [State.holdoffTimerRuns, h]

theorem takeGrant_other {s : State} (h : ∀ f, s.txB ≠ .requesting f) : takeGrant s = s := by
  rw [takeGrant]
  split
  · rfl
  · exact absurd ‹_› (h _)
  · rfl
  · rfl

theorem timeOutGrant_other {s : State} (h : ∀ f, s.txB ≠ .requesting f) : timeOutGrant s = s := by
  rw [timeOutGrant]
  split
  · rfl
  · exact absurd ‹_› (h _)
  · rfl
  · rfl

theorem loseGrant_other {s : State} (h : ∀ f os, s.txB ≠ .sending f os) : loseGrant s = s := by
  rw [loseGrant]
  split
  · rfl
  · rfl
  · exact absurd ‹_› (h _ _)
  · rfl

theorem endHoldoff_other {s : State} (h : s.txB ≠ .holdoff) : endHoldoff s = s := by
  rw [endHoldoff]
  split
  · rfl
  · rfl
  · rfl
  · exact absurd ‹_› h

/-- Settles O50: each event by the state of transmitter B that takes it, and none in the others. -/
theorem grantAndHoldoffEvents : Obligations.GrantAndHoldoffEvents := by
  refine fun s hp => ⟨fun f hf => ?_, fun hf => ⟨?_, ?_⟩, fun hf => ?_, fun hf => ?_, fun hf => ?_,
    grantTimerRuns_iff s, holdoffTimerRuns_iff s⟩
  · simp only [exec, execGrantPresent, inCore_eq, if_pos hp, takeGrant, hf]
    rfl
  · simp only [exec, execGrantPresent, inCore_eq, if_pos hp, takeGrant_other (s := { s with grant := true }) hf]
  · rw [exec_inCore rfl hp, timeOutGrant_other hf]
  · simp only [exec, execGrantLoss, inCore_eq, if_pos hp, loseGrant_other (s := { s with grant := false }) hf]
  · rw [exec_inCore rfl hp]
    simp only [endHoldoff, hf]
  · rw [exec_inCore rfl hp, endHoldoff_other hf]

/-! ### Failed attempts (R70 to R75) -/

/-- R70, R72: the state in which an attempt fails: by a timeout, which is counted, or by a loss of the grant, which is
counted and cuts the transmission. -/
def failing (c : Instr) (k : Counter) (sent : PerLine (List Octet)) (draws : Nat) (s : State) : State :=
  { s with
    grant := if c = .grantLoss then false else s.grant
    grantTimer := if c = .grantTimeout then 0 else s.grantTimer
    counters := (bump k s).counters
    sent := sent
    draws := draws }

/-- R70, R72: the two commands that fail the attempt of what transmitter B has in flight. -/
theorem exec_failed {c : Instr} {k : Counter} {f : InFlight} {s : State} (hp : s.supply = .main)
    (hcase : (c = .grantTimeout ∧ k = .grantTimeouts ∧ s.txB = .requesting f) ∨
      (c = .grantLoss ∧ k = .grantLosses ∧ ∃ os, s.txB = .sending f os)) :
    ∃ sent draws, exec c s = .next (failAttempt f (failing c k sent draws s)) ∧
      (c = .grantTimeout → sent = s.sent ∧ draws = s.draws) ∧
      ∀ os, s.txB = .sending f os → sent.a = s.sent.a ∧ CutShort os sent.b := by
  rcases hcase with ⟨rfl, rfl, htx⟩ | ⟨rfl, rfl, os, htx⟩
  · refine ⟨s.sent, s.draws, ?_, fun _ => ⟨rfl, rfl⟩, fun os hos => by rw [htx] at hos; cases hos⟩
    rw [exec_inCore rfl hp]
    simp only [timeOutGrant, failing, htx, reduceCtorEq, if_true, if_false]
    rfl
  · refine ⟨(cancelSending .b os s).sent, s.draws + 1, ?_, (by simp), fun os' hos => ?_⟩
    · simp only [exec, execGrantLoss, inCore_eq, if_pos hp, loseGrant, failing, htx, reduceCtorEq, if_true, if_false]
      rfl
    · obtain rfl : os = os' := by
        rw [htx] at hos
        cases hos
        rfl
      exact ⟨rfl, cutStream_cutShort ..⟩

/-- R73: an attempt that fails within the retry limit. -/
theorem failFrame_within {q : QueueIx} {h : Block} {marked : Bool} {s : State}
    (hr : (s.record h).attempts + 1 ≤ s.settings.retryLimit) :
    failFrame q h marked s = returnToHead q h marked
      (raise .grantFail (setRecord h { s.record h with attempts := (s.record h).attempts + 1 } s)) :=
  if_neg (Nat.not_lt.mpr hr)

/-- R73: an attempt that fails beyond it. -/
theorem failFrame_beyond {q : QueueIx} {h : Block} {marked : Bool} {s : State}
    (hr : s.settings.retryLimit < (s.record h).attempts + 1) :
    failFrame q h marked s = raise .retryDrop (bump (.queue q .retryDrops) (releaseFrame h
      (raise .grantFail (setRecord h { s.record h with attempts := (s.record h).attempts + 1 } s)))) :=
  if_pos hr

/-- R75: HOLDOFF writes transmitter B and its timer. -/
theorem enterHoldoff_eq (s : State) :
    enterHoldoff s = { s with
      holdoffTimer := s.settings.holdOff, txB := if s.settings.holdOff = 0 then .idle else .holdoff } := rfl

/-- Settles O51: the attempt fails by either command, and the frame returns or is dropped by the retry limit. -/
theorem failedFrameReturnsOrDrops : Obligations.FailedFrameReturnsOrDrops := by
  intro c k q h marked sponsor s hp hcase
  have hk : k ≠ .queue q .retryDrops := by rcases hcase with ⟨-, rfl, -⟩ | ⟨-, rfl, -⟩ <;> simp
  obtain ⟨sent, draws, hexec, htimeout, hcut⟩ := exec_failed hp hcase
  have hchain : ((raise .grantFail (setRecord h { s.record h with attempts := (s.record h).attempts + 1 }
      (failing c k sent draws s))).record h).chain = (s.record h).chain := by
    have hrec : (raise .grantFail (setRecord h { s.record h with attempts := (s.record h).attempts + 1 }
      (failing c k sent draws s))).record h = { s.record h with attempts := (s.record h).attempts + 1 } :=
      table_set_get_same ..
    rw [hrec]
  rcases Nat.lt_or_ge s.settings.retryLimit ((s.record h).attempts + 1) with hr | hr
  · rw [failAttempt, failFrame_beyond (s := failing c k sent draws s) hr, enterHoldoff_eq] at hexec
    obtain ⟨hcounted, hdropped, hothers⟩ := counted_two (s := s) (n := 1) (m := 1) hk (t := bumpBy (.queue q .retryDrops) 1
      (bumpBy k 1 s)) rfl
    refine ⟨_, hexec, rfl, htimeout, hcut, fun b => table_set_get .., rfl, hcounted,
      fun hw => absurd hr (Nat.not_lt.mpr hw), fun _ => ⟨rfl, ?_, ?_, hdropped, hothers, ?_⟩⟩
    · rw [← hchain]
      rfl
    · rw [← hchain]
      rfl
    · exact ⟨_, raise_raised .., raise_raised ..⟩
  · rw [failAttempt, failFrame_within (s := failing c k sent draws s) hr, enterHoldoff_eq] at hexec
    obtain ⟨hcounted, hothers⟩ := counted_one (c := k) (n := 1) (s := s) (t := bump k s) rfl
    refine ⟨_, hexec, rfl, htimeout, hcut, fun b => table_set_get .., rfl, hcounted,
      fun _ => ⟨?_, rfl, rfl, hothers, raise_raised ..⟩, fun hb => absurd hb (Nat.not_lt.mpr hr)⟩
    cases marked <;> rfl

/-- R74: an attempt of a slot that fails within the retry limit. -/
theorem failSlot_within {i : SlotIx} {s : State} (hr : (s.agent .b).slots[i].attempts + 1 ≤ s.settings.retryLimit) :
    failSlot i s = raise .grantFail
      (setAgent .b ((s.agent .b).backToQueued i ((s.agent .b).slots[i].attempts + 1)) s) :=
  if_neg (Nat.not_lt.mpr hr)

theorem failSlot_beyond {i : SlotIx} {s : State} (hr : s.settings.retryLimit < (s.agent .b).slots[i].attempts + 1) :
    failSlot i s = slotEnded .b i (bump (.mgmt .responsesLost) (raise .grantFail
      (setAgent .b ((s.agent .b).backToQueued i ((s.agent .b).slots[i].attempts + 1)) s))) :=
  if_pos hr

/-- Settles O52: as for a data frame, the slot being QUEUED again or its sending ended. -/
theorem failedSlotRequeuesOrEnds : Obligations.FailedSlotRequeuesOrEnds := by
  intro c k i s hp hcase counted
  have hk : k ≠ .mgmt .responsesLost := by rcases hcase with ⟨-, rfl, -⟩ | ⟨-, rfl, -⟩ <;> simp
  obtain ⟨sent, draws, hexec, htimeout, hcut⟩ := exec_failed hp hcase
  rcases Nat.lt_or_ge s.settings.retryLimit ((s.agent .b).slots[i].attempts + 1) with hr | hr
  · rw [failAttempt, failSlot_beyond (s := failing c k sent draws s) hr, enterHoldoff_eq] at hexec
    obtain ⟨hcounted, hlost, hothers⟩ := counted_two (s := s) (n := 1) (m := 1) hk (t := bumpBy (.mgmt .responsesLost) 1
      (bumpBy k 1 s)) rfl
    exact ⟨_, hexec, rfl, htimeout, hcut, hcounted, raise_raised .., fun hw => absurd hr (Nat.not_lt.mpr hw),
      fun _ => ⟨slotEnded_ended .b i counted _ rfl rfl, hlost, hothers⟩⟩
  · rw [failAttempt, failSlot_within (s := failing c k sent draws s) hr, enterHoldoff_eq] at hexec
    obtain ⟨hcounted, hothers⟩ := counted_one (c := k) (n := 1) (s := s) (t := bump k s) rfl
    exact ⟨_, hexec, rfl, htimeout, hcut, hcounted, raise_raised .., fun _ => ⟨rfl, rfl, hothers⟩,
      fun hb => absurd hb (Nat.not_lt.mpr hr)⟩

/-! ### Charges (R34) -/

theorem takeCharge_none {s : State} (h : s.charge = none) : takeCharge s = s := by
  simp only [takeCharge, h]

/-- R34: no charge is outstanding after one is taken. -/
theorem takeCharge_charge (s : State) : (takeCharge s).charge = none := by
  cases h : s.charge with
  | none => rw [takeCharge_none h, h]
  | some c =>
    simp only [takeCharge, h]
    rfl

theorem takeCharge_takeCharge (s : State) : takeCharge (takeCharge s) = takeCharge s :=
  takeCharge_none (takeCharge_charge s)

theorem takeCharge_supply (s : State) : (takeCharge s).supply = s.supply := by
  unfold takeCharge
  split <;> rfl

/-- R34: an outstanding charge, at its window. -/
theorem takeCharge_some {s : State} {c : Charge} (h : s.charge = some c) :
    takeCharge s = raiseIf (s.windows[c.sponsor.window].spentBy c.length c.sponsor.opening) .budgetSpent
      (setWindow c.sponsor.window (s.windows[c.sponsor.window].charged c.length c.sponsor.opening)
        { s with charge := none }) := by
  simp only [takeCharge, h]

/-- R34: a window that takes no charge is left. -/
theorem Window.charged_ignored {w : Window} {n : Nat} {opening : Word16} (h : w.takesCharge opening = false) :
    w.charged n opening = w ∧ w.spentBy n opening = false := by
  simp [Window.charged, Window.spentBy, h]

theorem setWindow_self {i : WindowIx} {s : State} : setWindow i s.windows[i] s = s := by
  have hself : s.windows.set i.val s.windows[i] i.isLt = s.windows := by
    refine table_ext fun j => ?_
    rw [table_set_get]
    split
    · rw [‹j = i›]
    · rfl
  rw [setWindow, hself]

/-- Settles O55: the charge at its window, which it spends where the remaining budget is no more than its length. -/
theorem chargeTakenOrIgnored : Obligations.ChargeTakenOrIgnored := by
  intro c s hp hc w
  have hexec : exec .charge s = .next _ := (exec_inCore rfl hp).trans (congrArg _ (takeCharge_some hc))
  refine ⟨fun hnot => ?_, fun hopen hopening hbudget => ?_⟩
  · have hignored : w.takesCharge c.sponsor.opening = false := by
      rw [Bool.eq_false_iff, ne_eq, Window.takesCharge_iff]
      rintro ⟨h1, h2, h3⟩
      rcases hnot with h | h | h
      · exact h h1
      · exact h h2
      · exact h3 h
    obtain ⟨hcharged, hspent⟩ := Window.charged_ignored (n := c.length) hignored
    have hself := setWindow_self (i := c.sponsor.window) (s := { s with charge := none })
    rw [hexec, hcharged, hspent]
    exact congrArg _ hself
  · have htakes := (w.takesCharge_iff c.sponsor.opening).mpr ⟨hopen, hopening, hbudget⟩
    refine ⟨fun hleft => ?_, fun hspent => ⟨_, hexec, ?_, ?_⟩⟩
    · have hno : w.spentBy c.length c.sponsor.opening = false := by
        rw [Window.spentBy, htakes, Bool.true_and]
        exact decide_eq_false (Nat.not_le.mpr hleft)
      rw [hexec, hno, Window.charged, if_pos htakes, if_neg (Nat.not_le.mpr hleft), ← hopen]
      rfl
    · rw [Window.charged, if_pos htakes, if_pos hspent, Nat.sub_eq_zero_of_le hspent]
      rfl
    · have hyes : w.spentBy c.length c.sponsor.opening = true := by
        rw [Window.spentBy, htakes, Bool.true_and]
        exact decide_eq_true hspent
      rw [hyes]
      exact raise_raised ..

/-! ### Completions (R77 to R79, R85) -/

/-- R77, R79: the completion of a data frame on line B, a charge taken before it. -/
theorem endFrameB_frame {s : State} {q : QueueIx} {h : Block} {marked : Bool} {sponsor : Option Sponsor} {os : List Octet}
    (first : Bool) (htx : s.txB = .sending (.frame q h marked sponsor) os) :
    endFrameB first s = continueB (if first then takeCharge (completeFrameB q h sponsor os (takeCharge s))
      else completeFrameB q h sponsor os (takeCharge s)) := by
  simp only [endFrameB, htx]

/-- Settles O53. -/
theorem completionBFrameReleasesAndCharges : Obligations.CompletionBFrameReleasesAndCharges := by
  refine ⟨fun first q h marked sponsor os s hp htx hc => ?_, fun first s u hu => ?_⟩
  · have hexec : exec (.completionBFrame first) s = .next _ :=
      (exec_inCore rfl hp).trans (congrArg _ (endFrameB_frame first htx))
    rw [takeCharge_none hc] at hexec
    obtain ⟨hreleased, hsent, hothers⟩ := counted_two (s := s) (c := .queue q .released) (d := .line .b .framesSent)
      (n := 1) (m := 1) (by simp) (t := completeFrameB q h sponsor os s) rfl
    refine ⟨_, completeFrameB q h sponsor os s, _, hexec, rfl, hreleased, hsent, hothers, ?_, continueB_continued _⟩
    cases first with
    | false => rfl
    | true => exact exec_inCore rfl hp
  · by_cases hp : s.supply = .main
    · have hu' : takeCharge s = u := by
        rw [exec_inCore rfl hp, Host.Outcome.next.injEq] at hu
        exact hu
      subst hu'
      by_cases htx : ∃ q h marked sponsor os, s.txB = .sending (.frame q h marked sponsor) os
      · obtain ⟨q, h, marked, sponsor, os, htx⟩ := htx
        refine .inl ?_
        rw [exec_inCore rfl hp, exec_inCore rfl ((takeCharge_supply s).trans hp), endFrameB_frame first htx,
          endFrameB_frame first ((takeCharge_txB s).trans htx), takeCharge_takeCharge]
      · simp only [not_exists] at htx
        exact .inr htx
    · have hu' : s = u := by
        have hnone : exec .charge s = .next s := inCore_unpowered hp
        rw [hnone, Host.Outcome.next.injEq] at hu
        exact hu
      exact .inl (by rw [hu'])

/-- R78, R85: the completion of a slot. -/
theorem completeSlot_effect (l : Line) (i : SlotIx) (os : List Octet) (s : State) :
    completeSlot l i os s = { s with
      mgmt := (completeSlot l i os s).mgmt, restart := (completeSlot l i os s).restart
      counters := (completeSlot l i os s).counters, sent := s.sent.set l os } ∧
    SlotEnded l i s (completeSlot l i os s) ∧ Counted (.line l .framesSent) 1 s (completeSlot l i os s) ∧
    (s.holdsNotice l i = true → Counted (.mgmt .noticesSent) 1 s (completeSlot l i os s) ∧
      OthersUncounted [.line l .framesSent, .mgmt .noticesSent] s (completeSlot l i os s)) ∧
    (s.holdsNotice l i = false → OthersUncounted [.line l .framesSent] s (completeSlot l i os s)) := by
  cases hn : s.holdsNotice l i with
  | true =>
    have heq : completeSlot l i os s =
        { slotEnded l i (bump (.mgmt .noticesSent) (bump (.line l .framesSent) s)) with sent := s.sent.set l os } := by
      simp only [completeSlot, hn, if_true]
      rfl
    rw [heq]
    obtain ⟨hsent, hnotice, hothers⟩ := counted_two (s := s) (c := .line l .framesSent) (d := .mgmt .noticesSent)
      (n := 1) (m := 1) (by simp)
      (t := { slotEnded l i (bump (.mgmt .noticesSent) (bump (.line l .framesSent) s)) with sent := s.sent.set l os }) rfl
    exact ⟨rfl, slotEnded_ended l i s _ rfl rfl, hsent, fun _ => ⟨hnotice, hothers⟩, fun h => by cases h⟩
  | false =>
    have heq : completeSlot l i os s =
        { slotEnded l i (bump (.line l .framesSent) s) with sent := s.sent.set l os } := by
      simp only [completeSlot, hn]
      rfl
    rw [heq]
    obtain ⟨hsent, hothers⟩ := counted_one (s := s) (c := .line l .framesSent) (n := 1)
      (t := { slotEnded l i (bump (.line l .framesSent) s) with sent := s.sent.set l os }) rfl
    exact ⟨rfl, slotEnded_ended l i s _ rfl rfl, hsent, (fun h => by cases h), fun _ => hothers⟩

/-- R78, R79: the completion of a slot on line B, a charge taken before it. -/
theorem endSlotB_slot {s : State} {i : SlotIx} {os : List Octet} (htx : s.txB = .sending (.slot i) os) :
    endSlotB s = continueB (completeSlot .b i os (takeCharge s)) := by
  simp only [endSlotB, htx]

/-- R142, R143: line B while its transmitter sends nothing. -/
theorem lineOctet_b_notSending {s : State} (h : ∀ f os, s.txB ≠ .sending f os) (k : Nat) :
    s.lineOctet .b k = s.sent.b.getD k 0xC3 := by
  cases htx : s.txB with
  | sending f os => exact absurd htx (h f os)
  | _ => simp only [State.lineOctet, State.transmission, htx, idleFill]

/-- Settles O54. -/
theorem completionOfSlotsAndLineA : Obligations.CompletionOfSlotsAndLineA := by
  refine ⟨fun i os s hp htx hc => ?_, fun i os s u hp htx hu => ?_, fun s k n => ?_, fun i os s hp htx => ?_,
    fun q h marked sponsor os s hp htx => ?_⟩
  · have hexec : exec .completionBSlot s = .next _ := (exec_inCore rfl hp).trans (congrArg _ (endSlotB_slot htx))
    rw [takeCharge_none hc] at hexec
    obtain ⟨hframe, hended, hsent, hnotice, hother⟩ := completeSlot_effect .b i os s
    exact ⟨_, _, hexec, hframe, hended, hsent, hnotice, hother, continueB_continued _⟩
  · have hu' : takeCharge s = u := by
      rw [exec_inCore rfl hp, Host.Outcome.next.injEq] at hu
      exact hu
    subst hu'
    refine ⟨takeCharge_charge s, ?_⟩
    rw [exec_inCore rfl hp, exec_inCore rfl ((takeCharge_supply s).trans hp), endSlotB_slot htx,
      endSlotB_slot ((takeCharge_txB s).trans htx), takeCharge_takeCharge]
  · refine ⟨fun f os htx => ?_, fun htx => ?_, fun f os htx => ?_, fun htx => lineOctet_b_notSending htx k, fun l => ?_⟩
    · simp only [State.lineOctet, State.transmission, htx, idleFill]
    · simp only [State.lineOctet, State.transmission, htx, idleFill]
    · simp only [State.lineOctet, State.transmission, htx, idleFill]
    · rw [State.lineBit, BitVec.getMsbD_eq_getLsbD, decide_eq_true (Nat.mod_lt n (by decide)), Bool.true_and]
  · have hend : endA s = selectA (completeSlot .a i os s) := by simp only [endA, htx]
    have hexec : exec .completionA s = .next _ := (exec_inCore rfl hp).trans (congrArg _ hend)
    obtain ⟨hframe, hended, hsent, hnotice, hother⟩ := completeSlot_effect .a i os s
    exact ⟨_, _, hexec, hframe, hended, hsent, hnotice, hother, selectA_selected _⟩
  · have hend : endA s = selectA (completeFrameA h os s) := by simp only [endA, htx]
    have hexec : exec .completionA s = .next _ := (exec_inCore rfl hp).trans (congrArg _ hend)
    obtain ⟨hreleased, hsent, hothers⟩ := counted_two (s := s) (c := .queue 7 .released) (d := .line .a .framesSent)
      (n := 1) (m := 1) (by simp) (t := completeFrameA h os s) rfl
    exact ⟨_, _, hexec, rfl, hreleased, hsent, hothers, selectA_selected _⟩

end Sys2Proof.Machine
end

section
/-! SUPPORT and CERTIFICATE. The clock's second steps, stops and returns, the minute boundary, the uptime second and the
notice unit's own events (chapters 3 and 10, R24 to R29). -/

namespace Sys2Proof.Machine

/-! ### Events raised once for each element of a table (R191) -/

theorem table_countP_eq_zero {α : Type} {n : Nat} (v : Vector α n) (p : α → Bool) :
    v.toList.countP p = 0 ↔ ∀ i : Fin n, p v[i] = false := by
  have hany := table_any_iff v p
  rw [List.countP_eq_zero]
  constructor
  · intro h i
    rw [Bool.eq_false_iff]
    intro hp
    obtain ⟨x, hx, hpx⟩ := List.any_eq_true.mp (hany.mpr ⟨i, hp⟩)
    exact h x hx hpx
  · intro h x hx hpx
    obtain ⟨i, hi⟩ := hany.mp (List.any_eq_true.mpr ⟨x, hx, hpx⟩)
    rw [h i] at hi
    cases hi

/-- R191: an event raised for each element of a table that passes a test: not at all, or as if once. -/
theorem raiseTimes_countP {α : Type} {n : Nat} (setting : Nat) (e : Event) (v : Vector α n) (p : α → Bool) (u : EventUnit) :
    ((∀ i : Fin n, p v[i] = false) → EventUnit.raiseTimes setting e (v.toList.countP p) u = u) ∧
      ((∃ i : Fin n, p v[i] = true) → Raised setting e u (EventUnit.raiseTimes setting e (v.toList.countP p) u)) := by
  constructor
  · intro h
    rw [(table_countP_eq_zero v p).mpr h]
    rfl
  · rintro ⟨i, hi⟩
    refine raiseTimes_raised _ _ _ _ fun h0 => ?_
    rw [(table_countP_eq_zero v p).mp h0 i] at hi
    cases hi

/-! ### Second steps, stops and returns (R48 to R51) -/

theorem timekeeps_iff (s : State) : s.timekeeps = true ↔ s.supply ≠ .none := by
  simp [State.timekeeps]

theorem atRoll_iff (c : Calendar) : c.atRoll = true ↔ 60 ≤ c.second + 1 := by
  simp [Calendar.atRoll]

/-- R48: a second step is taken while the crystal runs in a powered domain. -/
theorem exec_secondStep {s : State} (hp : s.supply ≠ .none) (hr : s.tk.crystal = .running) :
    exec .secondStep s = .next (takeSecondStep s) := by
  simp only [exec, execSecondStep, (timekeeps_iff s).mpr hp, hr]
  rfl

theorem exec_secondStep_stopped {s : State} (h : s.supply = .none ∨ s.tk.crystal = .stopped) :
    exec .secondStep s = .next s ∧ exec .minuteBoundary s = .next s ∧ exec .oscillatorStop s = .next s := by
  have hcond : (s.timekeeps && s.tk.crystal == .running) = false := by
    rcases h with h | h <;> simp [State.timekeeps, h]
  simp [exec, execSecondStep, execMinuteBoundary, execOscillatorStop, hcond]

/-- R26, R49: a minute boundary is the second step that rolls the seconds (log 6). -/
theorem exec_minuteBoundary {s : State} (hp : s.supply ≠ .none) (hr : s.tk.crystal = .running)
    (hroll : 60 ≤ s.tk.cal.second + 1) : exec .minuteBoundary s = .next (takeSecondStep s) := by
  simp only [exec, execMinuteBoundary, (timekeeps_iff s).mpr hp, hr, (atRoll_iff _).mpr hroll]
  rfl

theorem exec_minuteBoundary_other {s : State} (hroll : s.tk.cal.second + 1 < 60) :
    exec .minuteBoundary s = .next s := by
  have hno : s.tk.cal.atRoll = false := decide_eq_false (Nat.not_le.mpr hroll)
  simp [exec, execMinuteBoundary, hno]

theorem exec_crystalReturn {s : State} (hp : s.supply ≠ .none) (hr : s.tk.crystal = .stopped) :
    exec .crystalReturn s = .next (takeCrystalReturn s) := by
  simp only [exec, execCrystalReturn, (timekeeps_iff s).mpr hp, hr]
  rfl

theorem exec_crystalReturn_running {s : State} (h : s.supply = .none ∨ s.tk.crystal = .running) :
    exec .crystalReturn s = .next s := by
  have hcond : (s.timekeeps && s.tk.crystal == .stopped) = false := by
    rcases h with h | h <;> simp [State.timekeeps, h]
  simp [exec, execCrystalReturn, hcond]

theorem exec_oscillatorStop {s : State} (hp : s.supply ≠ .none) (hr : s.tk.crystal = .running) :
    exec .oscillatorStop s = .next (takeOscillatorStop s) := by
  simp only [exec, execOscillatorStop, (timekeeps_iff s).mpr hp, hr]
  rfl

/-- R48: a second step within a minute. -/
theorem takeSecondStep_within {s : State} (h : s.tk.cal.second + 1 < 60) :
    takeSecondStep s = { s with
      tk := { s.tk with cal := { s.tk.cal with second := s.tk.cal.second + 1 }, divider := 0 } } := by
  have hno : s.tk.cal.atRoll = false := decide_eq_false (Nat.not_le.mpr h)
  simp [takeSecondStep, hno, Timekeeping.secondStep, Calendar.tick, h]

/-- R51: a cycle that does not complete the count. -/
theorem takeCrystalReturn_counts {s : State} (h : s.tk.divider + 1 < 32768) :
    takeCrystalReturn s = { s with tk := { s.tk with crystal := .running, divider := s.tk.divider + 1 } } :=
  if_neg (Nat.not_le.mpr h)

/-- R51: a cycle that completes the count is a second step (log 7). -/
theorem takeCrystalReturn_steps {s : State} (h : s.tk.divider = 32767) :
    takeCrystalReturn s = takeSecondStep { s with tk := { s.tk with crystal := .running } } := by
  have hle : 32768 ≤ s.tk.divider + 1 := by omega
  rw [takeCrystalReturn, if_pos hle]
  rfl

/-- R41, R50: what an oscillator stop leaves while main supply powers the core domain. -/
theorem takeOscillatorStop_main {s : State} (h : s.supply = .main) :
    takeOscillatorStop s =
      closeWindows (raise .clockStopped { s with tk := { s.tk with crystal := .stopped, timeValid := false } }) :=
  if_pos h

theorem takeOscillatorStop_backup {s : State} (h : s.supply ≠ .main) :
    takeOscillatorStop s = { s with tk := { s.tk with crystal := .stopped, timeValid := false } } := if_neg h

theorem WindowState.running_eq_false_iff (w : WindowState) : w.running = false ↔ w.phase = .closed := by
  simp [running]

/-- Settles O57. -/
theorem secondStepsStopsAndReturns : Obligations.SecondStepsStopsAndReturns := by
  refine ⟨fun s hp => ?_, fun s hp => ⟨fun hr hsec => ?_, fun hr hsec => ?_, fun hr => ?_, fun hr => ?_⟩⟩
  · obtain ⟨hstep, hboundary, hstop⟩ := exec_secondStep_stopped (s := s) (.inl hp)
    exact ⟨hstep, hboundary, hstop, exec_crystalReturn_running (.inl hp)⟩
  · exact ⟨(exec_secondStep hp hr).trans (congrArg _ (takeSecondStep_within hsec)), exec_minuteBoundary_other hsec⟩
  · exact (exec_secondStep hp hr).trans (exec_minuteBoundary hp hr hsec).symm
  · obtain ⟨hstep, hboundary, hstop⟩ := exec_secondStep_stopped (s := s) (.inr hr)
    refine ⟨hstep, hboundary, hstop, fun hd => ?_, fun hd => ?_⟩
    · exact (exec_crystalReturn hp hr).trans (congrArg _ (takeCrystalReturn_counts hd))
    · rw [exec_crystalReturn hp hr, takeCrystalReturn_steps hd]
      exact (exec_secondStep (s := { s with tk := { s.tk with crystal := .running } }) hp rfl).symm
  · refine ⟨exec_crystalReturn_running (.inr hr), fun hb => ?_, fun hm => ?_⟩
    · exact (exec_oscillatorStop hp hr).trans (congrArg _ (takeOscillatorStop_backup (by simp [hb])))
    · obtain ⟨hnone, hsome⟩ := raiseTimes_countP s.settings.noticeRepeat .windowClosed s.windows
        (fun w => w.state.running) (s.events.raise s.settings.noticeRepeat .clockStopped)
      refine ⟨_, s.events.raise s.settings.noticeRepeat .clockStopped,
        (exec_oscillatorStop hp hr).trans (congrArg _ (takeOscillatorStop_main hm)), rfl, fun w => ?_, raise_raised ..,
        fun hclosed => hnone fun w => (WindowState.running_eq_false_iff _).mpr (hclosed w),
        fun ⟨w, hw⟩ => hsome ⟨w, (WindowState.running_iff _).mpr hw⟩⟩
      refine (mapTable_get_fin ..).trans ?_
      by_cases hw : s.windows[w].state.phase = .closed
      · have hnot : ¬s.windows[w].state.running = true := by
          rw [WindowState.running_iff]
          exact not_not.mpr hw
        rw [if_pos hw]
        exact if_neg hnot
      · rw [if_neg hw]
        exact if_pos ((WindowState.running_iff _).mpr hw)

/-! ### The minute boundary (R25 to R27) -/

/-- R25: an entry's match of a calendar time, by its fields. -/
theorem WindowEntry.isMatch_iff (e : WindowEntry) (c : Calendar) :
    e.isMatch c = true ↔
      e.enabled = true ∧ e.minute = c.minute ∧ (∀ h, e.hour = some h → h = c.hour) ∧
        (∀ ds, e.weekdays = some ds → ds.getLsbD c.weekday = true) ∧ ∀ d, e.day = some d → d = c.day := by
  have hany : ∀ (f : Option Nat) n, anyOrEqual f n = true ↔ ∀ x, f = some x → x = n := by
    intro f n
    cases f <;> simp [anyOrEqual]
  have hdays : e.weekdayOk c.weekday = true ↔ ∀ ds, e.weekdays = some ds → ds.getLsbD c.weekday = true := by
    cases hw : e.weekdays <;> simp [weekdayOk, hw]
  simp only [isMatch, Bool.and_eq_true, beq_iff_eq, hany, hdays, and_assoc]

/-- R26: a window that is OPEN or SPENT with minutes to run after this one. -/
def WindowState.RunsOn (w : WindowState) : Prop := w.phase ≠ .closed ∧ 1 < w.minutes

theorem WindowState.runsOut_iff (w : WindowState) : w.runsOut = true ↔ w.phase ≠ .closed ∧ w.minutes ≤ 1 := by
  simp [runsOut, running_iff]

/-- R26: a window that runs on counts one minute. -/
theorem WindowState.countDown_runsOn {w : WindowState} (h : w.RunsOn) :
    w.countDown = { w with minutes := w.minutes - 1 } := by
  obtain ⟨hphase, hmin⟩ := h
  rw [countDown, if_pos ((running_iff w).mpr hphase), if_neg (Nat.not_le.mpr hmin)]

/-- R26: one that runs out closes. -/
theorem WindowState.countDown_runsOut {w : WindowState} (hphase : w.phase ≠ .closed) (hmin : w.minutes ≤ 1) :
    w.countDown = { w with phase := .closed, minutes := 0 } := by
  rw [countDown, if_pos ((running_iff w).mpr hphase), if_pos hmin]
  rfl

theorem WindowState.countDown_closed {w : WindowState} (h : w.phase = .closed) : w.countDown = w := by
  rw [countDown, if_neg (by simp [running_iff, h])]

/-- R26: after the first step a window is CLOSED unless it runs on, and its opening number is as before. -/
theorem WindowState.countDown_phase_opening (w : WindowState) :
    (w.countDown.phase = .closed ↔ ¬w.RunsOn) ∧ w.countDown.opening = w.opening := by
  by_cases hphase : w.phase = .closed
  · rw [countDown_closed hphase]
    exact ⟨iff_of_true hphase fun h => h.1 hphase, rfl⟩
  · by_cases hmin : w.minutes ≤ 1
    · rw [countDown_runsOut hphase hmin]
      exact ⟨iff_of_true rfl fun h => absurd h.2 (Nat.not_lt.mpr hmin), rfl⟩
    · have hon : w.RunsOn := ⟨hphase, Nat.not_le.mp hmin⟩
      rw [countDown_runsOn hon]
      exact ⟨iff_of_false hphase (not_not.mpr hon), rfl⟩

/-- R27: a window opens at the boundary where it does not run on and its entry matches. -/
theorem Window.opensAt_countDown_iff (c : Calendar) (w : Window) :
    w.countDown.opensAt c = true ↔ ¬w.state.RunsOn ∧ w.entry.isMatch c = true := by
  rw [opensAt, Bool.and_eq_true, beq_iff_eq, ← w.state.countDown_phase_opening.1]
  rfl

/-- R27: a window that does not open is as the first step left it. -/
theorem Window.boundary_notOpened {c : Calendar} {w : Window} (h : ¬(¬w.state.RunsOn ∧ w.entry.isMatch c = true)) :
    (w.boundary c).state = w.state.countDown := by
  rw [← opensAt_countDown_iff] at h
  rw [boundary, openAt, if_neg h]
  rfl

theorem Window.boundary_opened {c : Calendar} {w : Window} (h : ¬w.state.RunsOn ∧ w.entry.isMatch c = true) :
    (w.boundary c).state =
      { phase := .opened, minutes := w.entry.duration, budget := w.entry.budget, opening := w.state.opening + 1 } := by
  rw [boundary, openAt, if_pos ((opensAt_countDown_iff c w).mpr h)]
  show ({ phase := .opened, minutes := w.entry.duration, budget := w.entry.budget
          opening := w.state.countDown.opening + 1 } : WindowState) = _
  rw [w.state.countDown_phase_opening.2]

/-- R49: a minute boundary that the schedule unit does not take. -/
theorem takeSecondStep_calendar {s : State} (h : s.supply = .backup ∨ s.tk.timeValid = false) :
    takeSecondStep s = { s with tk := s.tk.secondStep } := by
  rw [takeSecondStep]
  rcases h with h | h
  · rw [if_neg (by simp [h])]
  · split
    · have hno : s.tk.secondStep.timeValid = false := h
      rw [windowsBoundary, if_neg (by simp [hno])]
    · rfl

/-- R26, R27: a minute boundary that the schedule unit takes. -/
theorem takeSecondStep_boundary {s : State} (hm : s.supply = .main) (hv : s.tk.timeValid = true)
    (hroll : 60 ≤ s.tk.cal.second + 1) :
    takeSecondStep s = { s with
      tk := s.tk.secondStep
      windows := mapTable (fun _ w => w.boundary s.tk.cal.tick) s.windows
      events := EventUnit.raiseTimes s.settings.noticeRepeat .windowOpened
        (s.windows.toList.countP fun w => w.countDown.opensAt s.tk.cal.tick)
        (EventUnit.raiseTimes s.settings.noticeRepeat .windowClosed
          (s.windows.toList.countP fun w => w.state.runsOut) s.events) } := by
  have hv' : s.tk.secondStep.timeValid = true := hv
  rw [takeSecondStep, if_pos (by simp [(atRoll_iff _).mpr hroll, hm]), windowsBoundary, if_pos hv']
  rfl

/-- Settles O58: both steps at each window, and the raises of each. -/
theorem minuteBoundaryClosesAndOpens : Obligations.MinuteBoundaryClosesAndOpens := by
  intro s hp hr hroll
  have hexec := exec_minuteBoundary hp hr hroll
  by_cases hcal : s.supply = .backup ∨ s.tk.timeValid = false
  · rw [takeSecondStep_calendar hcal] at hexec
    refine ⟨_, s.events, hexec, rfl, fun _ => ⟨rfl, rfl⟩, fun hm hv => ?_⟩
    rcases hcal with h | h
    · rw [hm] at h
      cases h
    · rw [hv] at h
      cases h
  · have hm : s.supply = .main := by
      cases hs : s.supply with
      | main => rfl
      | backup => exact absurd (.inl hs) hcal
      | none => exact absurd hs hp
    have hv : s.tk.timeValid = true := by
      rw [not_or, Bool.not_eq_false] at hcal
      exact hcal.2
    rw [takeSecondStep_boundary hm hv hroll] at hexec
    obtain ⟨hnoneOut, hsomeOut⟩ := raiseTimes_countP s.settings.noticeRepeat .windowClosed s.windows
      (fun w => w.state.runsOut) s.events
    obtain ⟨hnoneOpen, hsomeOpen⟩ := raiseTimes_countP s.settings.noticeRepeat .windowOpened s.windows
      (fun w => w.countDown.opensAt s.tk.cal.tick) (EventUnit.raiseTimes s.settings.noticeRepeat .windowClosed
        (s.windows.toList.countP fun w => w.state.runsOut) s.events)
    refine ⟨_, EventUnit.raiseTimes s.settings.noticeRepeat .windowClosed
      (s.windows.toList.countP fun w => w.state.runsOut) s.events, hexec, rfl, fun h => absurd h hcal, fun _ _ => ?_⟩
    intro time isMatch runsOn runsOut
    have hmatch : ∀ w : WindowIx, s.windows[w].entry.isMatch time = true ↔ isMatch w := fun w =>
      s.windows[w].entry.isMatch_iff time
    have hopens : ∀ w : WindowIx, s.windows[w].countDown.opensAt time = true ↔ ¬runsOn w ∧ isMatch w := fun w => by
      rw [Window.opensAt_countDown_iff, hmatch]
      rfl
    have hget : ∀ w : WindowIx, (mapTable (fun _ w => w.boundary time) s.windows)[w] = s.windows[w].boundary time :=
      fun w => mapTable_get_fin ..
    have hkept : ∀ w : WindowIx, ¬(¬runsOn w ∧ isMatch w) →
        (mapTable (fun _ w => w.boundary time) s.windows)[w].state = s.windows[w].state.countDown := fun w h => by
      rw [hget, Window.boundary_notOpened (by rw [hmatch]; exact h)]
    refine ⟨fun w => ?_, fun w hon => ?_, fun w hon hmw => ?_, fun w hout hmw => ?_, fun w hclosed hmw => ?_,
      fun hnone => ?_, fun ⟨w, hout⟩ => ?_, fun hnone => ?_, fun ⟨w, hw⟩ => ?_⟩
    · exact (congrArg Window.entry (hget w)).trans (Window.boundary_entry ..)
    · exact (hkept w fun h => h.1 hon).trans (WindowState.countDown_runsOn hon)
    · exact (congrArg Window.state (hget w)).trans (Window.boundary_opened ⟨hon, (hmatch w).mpr hmw⟩)
    · exact (hkept w fun h => hmw h.2).trans (WindowState.countDown_runsOut hout.1 hout.2)
    · exact (hkept w fun h => hmw h.2).trans (WindowState.countDown_closed hclosed)
    · refine hnoneOut fun w => ?_
      rw [Bool.eq_false_iff, ne_eq, WindowState.runsOut_iff]
      exact hnone w
    · exact hsomeOut ⟨w, (WindowState.runsOut_iff _).mpr hout⟩
    · refine hnoneOpen fun w => ?_
      rw [Bool.eq_false_iff, ne_eq, hopens]
      rintro ⟨hon, hmw⟩
      exact (hnone w).elim hon fun h => h hmw
    · exact hsomeOpen ⟨w, (hopens w).mpr hw⟩

/-! ### The uptime second (R11, R57, R120) -/

/-- R19: the age drops of the queues listed are counted, each once. -/
theorem countAgeDrops_counted (s : State) : ∀ (qs : List QueueIx) (t : State), qs.Nodup →
    (∀ q ∈ qs, Counted (.queue q .ageDrops) (s.agedOut q).length t (countAgeDrops s qs t)) ∧
      OthersUncounted (qs.map fun q => .queue q .ageDrops) t (countAgeDrops s qs t)
  | [], _, _ => ⟨fun _ hq => absurd hq (List.not_mem_nil), fun _ _ => rfl⟩
  | q :: qs, t, hnodup => by
    obtain ⟨hq, hqs⟩ := List.nodup_cons.mp hnodup
    obtain ⟨hcounted, hothers⟩ := countAgeDrops_counted s qs (bumpBy (.queue q .ageDrops) (s.agedOut q).length t) hqs
    have hinj : ∀ p, (Counter.queue p .ageDrops).place = (Counter.queue q .ageDrops).place → p = q := fun p h => by
      have hc := Counter.place_injective h
      cases hc
      rfl
    constructor
    · intro p hp
      rcases List.mem_cons.mp hp with rfl | hp
      · have hkept := hothers (Counter.queue p .ageDrops).place fun c hc hplace => by
          obtain ⟨r, hr, rfl⟩ := List.mem_map.mp hc
          exact hq (hinj r hplace ▸ hr)
        have hbumped := count_bumpBy_same (.queue p .ageDrops) (s.agedOut p).length t
        exact (congrArg BitVec.toNat hkept).trans hbumped
      · have hne : (Counter.queue p .ageDrops).place ≠ (Counter.queue q .ageDrops).place := fun h =>
          hq (hinj p h ▸ hp)
        have hp' := hcounted p hp
        rw [Counted, count_bumpBy_other _ _ _ _ hne] at hp'
        exact hp'
    · intro k hk
      have hrest := hothers k fun c hc => hk c (List.mem_cons_of_mem _ hc)
      refine hrest.trans ?_
      rw [counters_bumpBy, if_neg fun h => hk _ List.mem_cons_self h.symm]

/-- R11: what an aging pass drops from a queue, and what it leaves. -/
theorem Queue.aged_spec (stampOf : Block → Word32) (now : Word32) (x : Queue) :
    x.frames = x.agedOut stampOf now ++ (x.aged stampOf now).frames ∧
      (x.maxAge = 0 → x.agedOut stampOf now = []) ∧
      (∀ h ∈ x.agedOut stampOf now, x.maxAge ≤ (now - stampOf h).toNat) ∧
      (x.maxAge ≠ 0 → ∀ h, (x.aged stampOf now).frames.head? = some h → (now - stampOf h).toNat < x.maxAge) := by
  by_cases hmax : x.maxAge = 0
  · have hnone : x.agedOut stampOf now = [] := if_pos hmax
    refine ⟨?_, fun _ => hnone, fun h hh => ?_, fun h => absurd hmax h⟩
    · rw [aged, hnone]
      rfl
    · rw [hnone] at hh
      cases hh
  · have htaken : x.agedOut stampOf now = x.frames.takeWhile fun h => overAge x.maxAge now (stampOf h) := if_neg hmax
    have hsplit := List.takeWhile_append_dropWhile (p := fun h => overAge x.maxAge now (stampOf h)) (l := x.frames)
    have hleft : (x.aged stampOf now).frames = x.frames.dropWhile fun h => overAge x.maxAge now (stampOf h) := by
      have hdrop : (x.frames.takeWhile (fun h => overAge x.maxAge now (stampOf h)) ++
          x.frames.dropWhile fun h => overAge x.maxAge now (stampOf h)).drop
            (x.frames.takeWhile fun h => overAge x.maxAge now (stampOf h)).length =
          x.frames.dropWhile fun h => overAge x.maxAge now (stampOf h) := List.drop_left
      rw [hsplit] at hdrop
      rw [aged, htaken]
      exact hdrop
    refine ⟨by rw [htaken, hleft, hsplit], fun h => absurd h hmax, fun h hh => ?_, fun _ h hh => ?_⟩
    · rw [htaken] at hh
      have hover := List.mem_takeWhile_imp (p := fun h => overAge x.maxAge now (stampOf h)) hh
      exact of_decide_eq_true hover
    · have hhead := List.head?_dropWhile_not (fun h => overAge x.maxAge now (stampOf h)) x.frames
      rw [← hleft, hh] at hhead
      exact Nat.not_le.mp (of_decide_eq_false hhead)

/-- R120: nothing is dropped in any order of the queues, exactly where nothing is dropped from any queue. -/
theorem flatMap_agedOut_eq_nil {s : State} {qs : List QueueIx} (h : qs.Perm (List.finRange 8)) :
    qs.flatMap s.agedOut = [] ↔ ∀ q, s.agedOut q = [] := by
  simp only [List.flatMap_eq_nil_iff, h.mem_iff, List.mem_finRange, true_implies]

/-- Settles O59: the aging pass at the uptime that the second counts. -/
theorem uptimeSecondAgesQueues : Obligations.UptimeSecondAgesQueues := by
  intro s hp
  have hexec : exec .uptimeSecond s = .next _ := exec_inCore rfl hp
  rw [takeUptimeSecond, agingPass_eq] at hexec
  generalize hu : ({ s with uptime := s.uptime + 1, uptimeDivider := 0, events := s.events.uptimeSecond } : State) = u at hexec
  generalize ht : (raiseTimes .ageDrop _ _ : State) = t at hexec
  have hperm : u.agingQueues.Perm (List.finRange 8) := permute_perm _ _
  have hrec : ∀ b, u.record b = s.record b := fun b => by rw [← hu]; rfl
  have hqueue : ∀ q, u.queue q = s.queue q := fun q => by rw [← hu]; rfl
  have huptime : u.uptime = s.uptime + 1 := by rw [← hu]
  have hstore : u.store = s.store := by rw [← hu]
  have hcounters : u.counters = s.counters := by rw [← hu]
  have hreleased : t.store = { u.store with
      free := (releaseFrames (u.agingQueues.flatMap u.agedOut) u).store.free
      armed := (releaseFrames (u.agingQueues.flatMap u.agedOut) u).store.armed } := by
    rw [← ht]
    rfl
  have hevents : t.events = EventUnit.raiseTimes u.settings.noticeRepeat .ageDrop
      ((List.finRange 8).flatMap u.agedOut).length u.events := by
    rw [← ht]
    rfl
  have hcounts : t.counters = (countAgeDrops u (List.finRange 8) u).counters := by
    rw [← ht]
    rfl
  obtain ⟨hcounted, hothers⟩ := countAgeDrops_counted u (List.finRange 8) u (List.nodup_finRange 8)
  refine ⟨t, u.agedOut, u.agingQueues, hexec, ?_, fun q => ?_, hperm, ?_, ?_, ?_, ?_⟩
  · rw [← ht, ← hu]
    rfl
  · obtain ⟨hsplit, hzero, hold, hyoung⟩ := (u.queue q).aged_spec u.stampOf u.uptime
    have hafter : t.queue q = (s.queue q).aged u.stampOf u.uptime := by
      rw [← ht, ← hqueue]
      exact mapTable_get_fin ..
    have hdropped : u.agedOut q = (s.queue q).agedOut u.stampOf u.uptime := by rw [State.agedOut, hqueue]
    rw [hqueue] at hsplit hzero hold hyoung
    have hcount := hcounted q (List.mem_finRange q)
    rw [Counted, State.count, State.count, hcounters, ← hcounts, hdropped] at hcount
    rw [hafter, hdropped]
    refine ⟨hsplit, rfl, hzero, fun h hh => ?_, fun hmax h hh => ?_, hcount⟩
    · rw [← huptime, ← hrec]
      exact hold h hh
    · rw [← huptime, ← hrec]
      exact hyoung hmax h hh
  · rw [hreleased, releaseFrames_free, hstore]
    simp only [hrec]
  · rw [hreleased, releaseFrames_armed]
    have harmed : ∀ n, u.armedAfter n = s.armedAfter n := fun n => by rw [← hu]; rfl
    simp only [hrec, flatMap_agedOut_eq_nil hperm, hstore, harmed]
  · intro k hk
    rw [hcounts, ← hcounters]
    refine hothers k fun c hc => hk c ?_
    rw [List.ofFn_eq_map]
    exact hc
  · intro timed
    have htimed : u.events = timed := by rw [← hu]; rfl
    have hsetting : u.settings = s.settings := by rw [← hu]
    have hnil := flatMap_agedOut_eq_nil (s := u) (List.Perm.refl (List.finRange 8))
    rw [hevents, htimed, hsetting]
    refine ⟨fun hnone => ?_, fun ⟨q, hq⟩ => ?_⟩
    · rw [hnil.mpr hnone]
      rfl
    · exact raiseTimes_raised _ _ _ _ fun h0 => hq (hnil.mp (List.length_eq_zero_iff.mp h0) q)

/-! ### Notices (R195 to R197) -/

theorem repeatExpired_iff (u : EventUnit) :
    u.repeatExpired = true ↔ u.notice.state = .outstanding ∧ u.notice.timer = some 0 := by
  simp [EventUnit.repeatExpired]

/-- R195: the build without one of its conditions. -/
theorem buildNotice_none {s : State} (h : s.noticeSlot = none) : buildNotice s = s := by
  simp only [buildNotice, h]

theorem buildNotice_some {s : State} {l : Line} {i : SlotIx} (h : s.noticeSlot = some (l, i)) :
    buildNotice s = { setAgent l ((s.agent l).place i s.noticeFrame) s with
      events := s.events.noticeBuilt s.settings.noticeRepeat } := by
  simp only [buildNotice, h]

/-- Settles O60. -/
theorem noticesAreBuiltAndRepeated : Obligations.NoticesAreBuiltAndRepeated := by
  refine fun s hp => ⟨fun hs ht => ?_, fun hno => ?_, fun hno => ?_, fun l i howed hman hline hfree hfirst => ?_⟩
  · exact (exec_inCore rfl hp).trans (congrArg _ (if_pos ((repeatExpired_iff _).mpr ⟨hs, ht⟩)))
  · refine (exec_inCore rfl hp).trans (congrArg _ (if_neg ?_))
    rw [repeatExpired_iff]
    rintro ⟨hs, ht⟩
    exact hno.elim (absurd hs) (absurd ht)
  · refine (exec_inCore rfl hp).trans (congrArg _ (buildNotice_none ?_))
    cases hslot : s.noticeSlot with
    | none => rfl
    | some p =>
      obtain ⟨l, i⟩ := p
      obtain ⟨howed, hman, hline, hfree⟩ := noticeSlot_eq_some hslot
      rcases hno with h | h | h | ⟨l', hl', hfull⟩
      · exact absurd howed h
      · rw [hman] at h
        cases h
      · rw [hline] at h
        cases h
      · rw [hline, Option.some.injEq] at hl'
        subst hl'
        rw [firstFree_eq_none.mpr hfull] at hfree
        cases hfree
  · have hslot : s.noticeSlot = some (l, i) := by
      rw [State.noticeSlot, if_pos ⟨howed, hman⟩, hline]
      simp only [firstFree_eq_some hfree hfirst, Option.map_some]
    have hagent : ∀ l', (State.agent { setAgent l ((s.agent l).place i s.noticeFrame) s with
        events := s.events.noticeBuilt s.settings.noticeRepeat } l') =
        if l' = l then (s.agent l).place i s.noticeFrame else s.agent l' := fun l' => agent_setAgent ..
    have hsame := hagent l
    rw [if_pos rfl] at hsame
    refine ⟨_, s.events.pendingSet, s.events.newSet, (exec_inCore rfl hp).trans (congrArg _ (buildNotice_some hslot)), rfl,
      fun n => ?_, fun n => ?_, ?_, fun j hj => ?_, ?_, ?_, fun l' hl' => ?_, rfl, fun n => mapTable_get_fin .., rfl⟩
    · rw [EventUnit.pendingSet, setOf_bit]
      cases s.events.states[n] <;> rfl
    · rw [EventUnit.newSet, setOf_bit]
      cases s.events.states[n] <;> rfl
    · rw [hsame, place_slots, if_pos rfl]
      rfl
    · rw [hsame, place_slots, if_neg hj]
    · rw [hsame]
      rfl
    · rw [hsame]
      rfl
    · rw [hagent, if_neg hl']

end Sys2Proof.Machine
end
